-- ==== Sys2Proof/Word.lean ====
section
/-!
DEFINITION. The plain words of the model: bytes, the three operand widths of the block (00_scope R9, R10)
and the two sizes 16 and 32 that code, operand and address sizes take (10_state R125).
-/
namespace Sys2Proof

/-- A byte of memory or of the instruction stream. -/
abbrev Byte := BitVec 8

/-- A 32-bit word: a general register, a segment base, `EIP`, a linear address (00_scope R9). -/
abbrev Dword := BitVec 32

/-- The operand widths the block moves: 1, 2 and 4 bytes (00_scope R9; 20_memory R204). -/
inductive Width where
  | byte
  | word
  | dword
deriving DecidableEq, Repr

/-- `n`, the operand width in bits (00_scope R10, R15). -/
@[reducible] def Width.bits : Width → Nat
  | .byte => 8
  | .word => 16
  | .dword => 32

/-- `n / 8`, the operand width in bytes. -/
def Width.bytes : Width → Nat
  | .byte => 1
  | .word => 2
  | .dword => 4

/-- 16 or 32: a code size, an operand size or an address size (10_state R125). -/
inductive Size where
  | b16
  | b32
deriving DecidableEq, Repr

/-- The other size, which a size prefix selects (30_encoding R306). -/
def Size.other : Size → Size
  | .b16 => .b32
  | .b32 => .b16

/-- The width of a `v` operand at an operand size (30_encoding R306). -/
@[reducible] def Size.width : Size → Width
  | .b16 => .word
  | .b32 => .dword

end Sys2Proof
end

