-- ==== Sys2Proof/Config.lean ====
section
/-!
DEFINITION. What the spec leaves open: the launch parameters that stay constant during a run (00_scope R9;
70_reset R1200), the launch values the model takes for those the decoder reads, and the free values
("draws"), which are opaque constants so that nothing can be proved of them.
-/
namespace Sys2Proof

/-- How the alias encodings are bound (30_encoding R371; the parameter `aliasPolicy`, OPEN). -/
inductive AliasPolicy where
  /-- The row decodes and runs as its twin. -/
  | twin
  /-- The row raises `#UD`. -/
  | undefinedOpcode
deriving DecidableEq, Repr

/-- The default segment of an ESP-based SIB address (30_encoding R324; the parameter `espBaseSegment`). -/
inductive EspBaseSegment where
  | ds
  | ss
deriving DecidableEq, Repr

/-- What is known of the parameter `deliver`, OPEN (60_exceptions R1120; 70_reset R1204). -/
inductive DeliverPolicy where
  /-- The spec's default `deliver = Stop`: every event ends the run. -/
  | stop
  /-- A `deliver` of the surrounding machine: for each event it hands a new state back, or `Stop` (log 15). -/
  | host
deriving DecidableEq, Repr

/-- A range of memory-mapped I/O addresses, both ends included (20_memory R206). -/
structure MmioRange where
  first : Dword
  last : Dword
deriving DecidableEq, Repr

/-- The launch parameters that no instruction changes (00_scope R9; 70_reset R1200). `mmio` is the set of
memory-mapped addresses as a list of ranges (DESIGN CHOICE of representation, log 6). -/
structure Params where
  codeSize : Size
  aliasPolicy : AliasPolicy
  linearMask : Dword
  espBaseSegment : EspBaseSegment
  mmio : List MmioRange
  deliver : DeliverPolicy
  stopIP : Dword
deriving DecidableEq, Repr

/-- What the decoder reads of the launch parameters (30_encoding R350: `codeSize`, `aliasPolicy`). -/
structure Mode where
  codeSize : Size
  aliasPolicy : AliasPolicy
deriving DecidableEq, Repr

/-- The decoder's view of the launch parameters. -/
def Params.mode (p : Params) : Mode := { codeSize := p.codeSize, aliasPolicy := p.aliasPolicy }

/-- The launch parameters of `State.reset`: the launch state of 95_test_vectors for `codeSize` and
`aliasPolicy`, the spec's defaults for `linearMask`, `espBaseSegment` and `deliver`, no memory-mapped
range (DESIGN CHOICE, log 3, 5, 6, 7, 15). -/
def Config.launch : Params :=
  { codeSize := .b16
    aliasPolicy := .undefinedOpcode
    linearMask := 0xFFFFFFFF#32
    espBaseSegment := .ds
    mmio := []
    deliver := .stop
    stopIP := 0xFFFF#32 }

/-- The Boolean an undefined flag takes at the `k`-th draw of a run (40_flag_engine R445; log 9). -/
opaque Config.drawFlag : Nat → Bool

/-- The value a read that touches a memory-mapped byte returns at the `k`-th draw (20_memory R206; log 10). -/
opaque Config.drawMemory : Nat → BitVec 32

/-- The value a port read returns at the `k`-th draw (20_memory R230; log 12). -/
opaque Config.drawPort : Nat → BitVec 16

/-- The value of a flag whose override is empty and whose group holds no tag that defines it. The engine
invariant (40_flag_engine R422) rules the case out, so no run takes it (log 20). -/
opaque Config.unrecordedFlag : Bool

end Sys2Proof
end

