-- ==== Sys2Proof/Syntax.lean ====
section
/-!
DEFINITION. The instructions of the block as syntax: the decoded record of 30_encoding R350, one constructor
of `Instr` per row of spec/opcode_table.json. Register numbers, segments, prefixes and addressing forms are
names here; the machine sees no raw encoding.
-/
namespace Sys2Proof

/-- The eight general register numbers 0 to 7 by the name of their 16-bit view (10_state R100). As a byte
operand number 4 to 7 means `AH CH DH BH` (10_state R103). -/
inductive Reg where
  | ax
  | cx
  | dx
  | bx
  | sp
  | bp
  | si
  | di
deriving DecidableEq, Repr

/-- The six segment registers, numbered in this order (10_state R110). -/
inductive Seg where
  | es
  | cs
  | ss
  | ds
  | fs
  | gs
deriving DecidableEq, Repr

/-- A prefix the block accepts (30_encoding R305): a segment override, operand size or address size. -/
inductive Prefix where
  | seg (s : Seg)
  | operandSize
  | addressSize
deriving DecidableEq, Repr

/-- The part of the decoded record every instruction has: its prefixes in stream order, the sizes derived
from them (30_encoding R306) and its length in bytes (30_encoding R350). -/
structure Head where
  prefixes : List Prefix
  opSize : Size
  addrSize : Size
  len : Nat
deriving DecidableEq, Repr

/-- The eight 16-bit base combinations by `rm` (30_encoding R315). -/
inductive Base16 where
  | bxSi
  | bxDi
  | bpSi
  | bpDi
  | si
  | di
  | bp
  | bx
deriving DecidableEq, Repr

/-- The displacement of a 16-bit addressing form: `mod` 0, 1, 2 (30_encoding R316). -/
inductive Disp16 where
  | none
  | d8 (d : BitVec 8)
  | d16 (d : BitVec 16)
deriving DecidableEq, Repr

/-- The displacement of a 32-bit addressing form: `mod` 0, 1, 2 (30_encoding R320). -/
inductive Disp32 where
  | none
  | d8 (d : BitVec 8)
  | d32 (d : BitVec 32)
deriving DecidableEq, Repr

/-- The ModRM `r/m` operand (30_encoding R312, R315-R323): a register, or one of the memory forms. In `sib`
and `sibNoBase` the index number 4 (`sp`) means no index (R322). -/
inductive EOperand where
  /-- `mod = 3`. -/
  | reg (r : Reg)
  /-- 16-bit addressing with a base combination. -/
  | mem16 (b : Base16) (d : Disp16)
  /-- 16-bit addressing, `mod = 0, rm = 6`: a displacement alone. -/
  | direct16 (d : BitVec 16)
  /-- 32-bit addressing with a base register and no SIB byte. -/
  | mem32 (b : Reg) (d : Disp32)
  /-- 32-bit addressing, `mod = 0, rm = 5`: a displacement alone. -/
  | direct32 (d : BitVec 32)
  /-- 32-bit addressing with a SIB byte and a base register. -/
  | sib (scale : BitVec 2) (index base : Reg) (d : Disp32)
  /-- 32-bit addressing with a SIB byte, `base = 5, mod = 0`: no base register. -/
  | sibNoBase (scale : BitVec 2) (index : Reg) (d : BitVec 32)
deriving DecidableEq, Repr

/-- The `mod` and `rm` fields of a ModRM byte that is read but not resolved, because the row raises `#UD`
at the ModRM byte (60_exceptions R1102). -/
structure ModRmBits where
  mod : BitVec 2
  rm : BitVec 3
deriving DecidableEq, Repr

/-- The operands of an alias row (30_encoding R371): those of its twin under the policy `alias`, or, under
`undefinedOpcode`, nothing past the ModRM byte (60_exceptions R1102; log 25). -/
inductive Aliased (α : Type) where
  | twin (ops : α)
  | undefinedOpcode (m : ModRmBits)
deriving DecidableEq, Repr

/-- Why the model has no meaning for a byte sequence (60_exceptions R1106). -/
inductive RefuseReason where
  | tooLong
  | lockPrefix
  | repPrefix
  | multipleSegmentOverrides
  | notInBlock
  | port32
deriving DecidableEq, Repr

/-- The reasons of an internal decode fault (60_exceptions R1104). -/
inductive DecodeFaultReason where
  | mod3Violation
  | unsupportedImmediateSize
  | shapeCacheInconsistency
deriving DecidableEq, Repr

/-- The instructions of the block, one constructor per row of spec/opcode_table.json, in its order.
`h` is the common record, `r` the ModRM `reg` field as a register (ignored by SETcc), `e` the ModRM `r/m`
operand, `v` the immediate or relative-offset field as fetched (a 16-bit `Iz` or `Jz` zero-extended), `a` the
operands of an alias row, `m` the ModRM fields of an undefined row. -/
inductive Instr where
  /-- `00` ADD Eb, Gb (R510). -/
  | addEbGb (h : Head) (r : Reg) (e : EOperand)
  /-- `01` ADD Ev, Gv (R510). -/
  | addEvGv (h : Head) (r : Reg) (e : EOperand)
  /-- `02` ADD Gb, Eb (R510). -/
  | addGbEb (h : Head) (r : Reg) (e : EOperand)
  /-- `03` ADD Gv, Ev (R510). -/
  | addGvEv (h : Head) (r : Reg) (e : EOperand)
  /-- `04` ADD AL, Ib (R510). -/
  | addALIb (h : Head) (v : BitVec 8)
  /-- `05` ADD eAX, Iz (R510). -/
  | addEAXIz (h : Head) (v : BitVec 32)
  /-- `08` OR Eb, Gb (R511). -/
  | orEbGb (h : Head) (r : Reg) (e : EOperand)
  /-- `09` OR Ev, Gv (R511). -/
  | orEvGv (h : Head) (r : Reg) (e : EOperand)
  /-- `0A` OR Gb, Eb (R511). -/
  | orGbEb (h : Head) (r : Reg) (e : EOperand)
  /-- `0B` OR Gv, Ev (R511). -/
  | orGvEv (h : Head) (r : Reg) (e : EOperand)
  /-- `0C` OR AL, Ib (R511). -/
  | orALIb (h : Head) (v : BitVec 8)
  /-- `0D` OR eAX, Iz (R511). -/
  | orEAXIz (h : Head) (v : BitVec 32)
  /-- `10` ADC Eb, Gb (R512). -/
  | adcEbGb (h : Head) (r : Reg) (e : EOperand)
  /-- `11` ADC Ev, Gv (R512). -/
  | adcEvGv (h : Head) (r : Reg) (e : EOperand)
  /-- `12` ADC Gb, Eb (R512). -/
  | adcGbEb (h : Head) (r : Reg) (e : EOperand)
  /-- `13` ADC Gv, Ev (R512). -/
  | adcGvEv (h : Head) (r : Reg) (e : EOperand)
  /-- `14` ADC AL, Ib (R512). -/
  | adcALIb (h : Head) (v : BitVec 8)
  /-- `15` ADC eAX, Iz (R512). -/
  | adcEAXIz (h : Head) (v : BitVec 32)
  /-- `18` SBB Eb, Gb (R513). -/
  | sbbEbGb (h : Head) (r : Reg) (e : EOperand)
  /-- `19` SBB Ev, Gv (R513). -/
  | sbbEvGv (h : Head) (r : Reg) (e : EOperand)
  /-- `1A` SBB Gb, Eb (R513). -/
  | sbbGbEb (h : Head) (r : Reg) (e : EOperand)
  /-- `1B` SBB Gv, Ev (R513). -/
  | sbbGvEv (h : Head) (r : Reg) (e : EOperand)
  /-- `1C` SBB AL, Ib (R513). -/
  | sbbALIb (h : Head) (v : BitVec 8)
  /-- `1D` SBB eAX, Iz (R513). -/
  | sbbEAXIz (h : Head) (v : BitVec 32)
  /-- `20` AND Eb, Gb (R514). -/
  | andEbGb (h : Head) (r : Reg) (e : EOperand)
  /-- `21` AND Ev, Gv (R514). -/
  | andEvGv (h : Head) (r : Reg) (e : EOperand)
  /-- `22` AND Gb, Eb (R514). -/
  | andGbEb (h : Head) (r : Reg) (e : EOperand)
  /-- `23` AND Gv, Ev (R514). -/
  | andGvEv (h : Head) (r : Reg) (e : EOperand)
  /-- `24` AND AL, Ib (R514). -/
  | andALIb (h : Head) (v : BitVec 8)
  /-- `25` AND eAX, Iz (R514). -/
  | andEAXIz (h : Head) (v : BitVec 32)
  /-- `28` SUB Eb, Gb (R515). -/
  | subEbGb (h : Head) (r : Reg) (e : EOperand)
  /-- `29` SUB Ev, Gv (R515). -/
  | subEvGv (h : Head) (r : Reg) (e : EOperand)
  /-- `2A` SUB Gb, Eb (R515). -/
  | subGbEb (h : Head) (r : Reg) (e : EOperand)
  /-- `2B` SUB Gv, Ev (R515). -/
  | subGvEv (h : Head) (r : Reg) (e : EOperand)
  /-- `2C` SUB AL, Ib (R515). -/
  | subALIb (h : Head) (v : BitVec 8)
  /-- `2D` SUB eAX, Iz (R515). -/
  | subEAXIz (h : Head) (v : BitVec 32)
  /-- `30` XOR Eb, Gb (R516). -/
  | xorEbGb (h : Head) (r : Reg) (e : EOperand)
  /-- `31` XOR Ev, Gv (R516). -/
  | xorEvGv (h : Head) (r : Reg) (e : EOperand)
  /-- `32` XOR Gb, Eb (R516). -/
  | xorGbEb (h : Head) (r : Reg) (e : EOperand)
  /-- `33` XOR Gv, Ev (R516). -/
  | xorGvEv (h : Head) (r : Reg) (e : EOperand)
  /-- `34` XOR AL, Ib (R516). -/
  | xorALIb (h : Head) (v : BitVec 8)
  /-- `35` XOR eAX, Iz (R516). -/
  | xorEAXIz (h : Head) (v : BitVec 32)
  /-- `38` CMP Eb, Gb (R517). -/
  | cmpEbGb (h : Head) (r : Reg) (e : EOperand)
  /-- `39` CMP Ev, Gv (R517). -/
  | cmpEvGv (h : Head) (r : Reg) (e : EOperand)
  /-- `3A` CMP Gb, Eb (R517). -/
  | cmpGbEb (h : Head) (r : Reg) (e : EOperand)
  /-- `3B` CMP Gv, Ev (R517). -/
  | cmpGvEv (h : Head) (r : Reg) (e : EOperand)
  /-- `3C` CMP AL, Ib (R517). -/
  | cmpALIb (h : Head) (v : BitVec 8)
  /-- `3D` CMP eAX, Iz (R517). -/
  | cmpEAXIz (h : Head) (v : BitVec 32)
  /-- `40+r` INC Zv (R610). -/
  | incZv (h : Head) (r : Reg)
  /-- `48+r` DEC Zv (R611). -/
  | decZv (h : Head) (r : Reg)
  /-- `80 /0` ADD Eb, Ib (R510). -/
  | addEbIb (h : Head) (e : EOperand) (v : BitVec 8)
  /-- `80 /1` OR Eb, Ib (R511). -/
  | orEbIb (h : Head) (e : EOperand) (v : BitVec 8)
  /-- `80 /2` ADC Eb, Ib (R512). -/
  | adcEbIb (h : Head) (e : EOperand) (v : BitVec 8)
  /-- `80 /3` SBB Eb, Ib (R513). -/
  | sbbEbIb (h : Head) (e : EOperand) (v : BitVec 8)
  /-- `80 /4` AND Eb, Ib (R514). -/
  | andEbIb (h : Head) (e : EOperand) (v : BitVec 8)
  /-- `80 /5` SUB Eb, Ib (R515). -/
  | subEbIb (h : Head) (e : EOperand) (v : BitVec 8)
  /-- `80 /6` XOR Eb, Ib (R516). -/
  | xorEbIb (h : Head) (e : EOperand) (v : BitVec 8)
  /-- `80 /7` CMP Eb, Ib (R517). -/
  | cmpEbIb (h : Head) (e : EOperand) (v : BitVec 8)
  /-- `81 /0` ADD Ev, Iz (R510). -/
  | addEvIz (h : Head) (e : EOperand) (v : BitVec 32)
  /-- `81 /1` OR Ev, Iz (R511). -/
  | orEvIz (h : Head) (e : EOperand) (v : BitVec 32)
  /-- `81 /2` ADC Ev, Iz (R512). -/
  | adcEvIz (h : Head) (e : EOperand) (v : BitVec 32)
  /-- `81 /3` SBB Ev, Iz (R513). -/
  | sbbEvIz (h : Head) (e : EOperand) (v : BitVec 32)
  /-- `81 /4` AND Ev, Iz (R514). -/
  | andEvIz (h : Head) (e : EOperand) (v : BitVec 32)
  /-- `81 /5` SUB Ev, Iz (R515). -/
  | subEvIz (h : Head) (e : EOperand) (v : BitVec 32)
  /-- `81 /6` XOR Ev, Iz (R516). -/
  | xorEvIz (h : Head) (e : EOperand) (v : BitVec 32)
  /-- `81 /7` CMP Ev, Iz (R517). -/
  | cmpEvIz (h : Head) (e : EOperand) (v : BitVec 32)
  /-- `83 /0` ADD Ev, Ib (R510). -/
  | addEvIb (h : Head) (e : EOperand) (v : BitVec 8)
  /-- `83 /1` OR Ev, Ib (R511). -/
  | orEvIb (h : Head) (e : EOperand) (v : BitVec 8)
  /-- `83 /2` ADC Ev, Ib (R512). -/
  | adcEvIb (h : Head) (e : EOperand) (v : BitVec 8)
  /-- `83 /3` SBB Ev, Ib (R513). -/
  | sbbEvIb (h : Head) (e : EOperand) (v : BitVec 8)
  /-- `83 /4` AND Ev, Ib (R514). -/
  | andEvIb (h : Head) (e : EOperand) (v : BitVec 8)
  /-- `83 /5` SUB Ev, Ib (R515). -/
  | subEvIb (h : Head) (e : EOperand) (v : BitVec 8)
  /-- `83 /6` XOR Ev, Ib (R516). -/
  | xorEvIb (h : Head) (e : EOperand) (v : BitVec 8)
  /-- `83 /7` CMP Ev, Ib (R517). -/
  | cmpEvIb (h : Head) (e : EOperand) (v : BitVec 8)
  /-- `82 /0` ADD Eb, Ib (82 alias of 80 /0) (R371). -/
  | addEbIb82 (h : Head) (a : Aliased (EOperand × BitVec 8))
  /-- `82 /1` OR Eb, Ib (82 alias of 80 /1) (R371). -/
  | orEbIb82 (h : Head) (a : Aliased (EOperand × BitVec 8))
  /-- `82 /2` ADC Eb, Ib (82 alias of 80 /2) (R371). -/
  | adcEbIb82 (h : Head) (a : Aliased (EOperand × BitVec 8))
  /-- `82 /3` SBB Eb, Ib (82 alias of 80 /3) (R371). -/
  | sbbEbIb82 (h : Head) (a : Aliased (EOperand × BitVec 8))
  /-- `82 /4` AND Eb, Ib (82 alias of 80 /4) (R371). -/
  | andEbIb82 (h : Head) (a : Aliased (EOperand × BitVec 8))
  /-- `82 /5` SUB Eb, Ib (82 alias of 80 /5) (R371). -/
  | subEbIb82 (h : Head) (a : Aliased (EOperand × BitVec 8))
  /-- `82 /6` XOR Eb, Ib (82 alias of 80 /6) (R371). -/
  | xorEbIb82 (h : Head) (a : Aliased (EOperand × BitVec 8))
  /-- `82 /7` CMP Eb, Ib (82 alias of 80 /7) (R371). -/
  | cmpEbIb82 (h : Head) (a : Aliased (EOperand × BitVec 8))
  /-- `84` TEST Eb, Gb (R518). -/
  | testEbGb (h : Head) (r : Reg) (e : EOperand)
  /-- `85` TEST Ev, Gv (R518). -/
  | testEvGv (h : Head) (r : Reg) (e : EOperand)
  /-- `A8` TEST AL, Ib (R518). -/
  | testALIb (h : Head) (v : BitVec 8)
  /-- `A9` TEST eAX, Iz (R518). -/
  | testEAXIz (h : Head) (v : BitVec 32)
  /-- `F6 /0` TEST Eb, Ib (R518). -/
  | testEbIb (h : Head) (e : EOperand) (v : BitVec 8)
  /-- `F6 /1` TEST Eb, Ib (/1 alias of /0) (R371). -/
  | testEbIbSlash1 (h : Head) (a : Aliased (EOperand × BitVec 8))
  /-- `F6 /2` NOT Eb (R613). -/
  | notEb (h : Head) (e : EOperand)
  /-- `F6 /3` NEG Eb (R612). -/
  | negEb (h : Head) (e : EOperand)
  /-- `F6 /4` MUL Eb (R710). -/
  | mulEb (h : Head) (e : EOperand)
  /-- `F6 /5` IMUL Eb (R711). -/
  | imulEb (h : Head) (e : EOperand)
  /-- `F6 /6` DIV Eb (R720). -/
  | divEb (h : Head) (e : EOperand)
  /-- `F6 /7` IDIV Eb (R721). -/
  | idivEb (h : Head) (e : EOperand)
  /-- `F7 /0` TEST Ev, Iz (R518). -/
  | testEvIz (h : Head) (e : EOperand) (v : BitVec 32)
  /-- `F7 /1` TEST Ev, Iz (/1 alias of /0) (R371). -/
  | testEvIzSlash1 (h : Head) (a : Aliased (EOperand × BitVec 32))
  /-- `F7 /2` NOT Ev (R613). -/
  | notEv (h : Head) (e : EOperand)
  /-- `F7 /3` NEG Ev (R612). -/
  | negEv (h : Head) (e : EOperand)
  /-- `F7 /4` MUL Ev (R710). -/
  | mulEv (h : Head) (e : EOperand)
  /-- `F7 /5` IMUL Ev (R711). -/
  | imulEv (h : Head) (e : EOperand)
  /-- `F7 /6` DIV Ev (R720). -/
  | divEv (h : Head) (e : EOperand)
  /-- `F7 /7` IDIV Ev (R721). -/
  | idivEv (h : Head) (e : EOperand)
  /-- `FE /0` INC Eb (R610). -/
  | incEb (h : Head) (e : EOperand)
  /-- `FE /1` DEC Eb (R611). -/
  | decEb (h : Head) (e : EOperand)
  /-- `FF /0` INC Ev (R610). -/
  | incEv (h : Head) (e : EOperand)
  /-- `FF /1` DEC Ev (R611). -/
  | decEv (h : Head) (e : EOperand)
  /-- `FE /2` (undefined) FE /2 (R372). -/
  | undefinedFE2 (h : Head) (m : ModRmBits)
  /-- `FE /3` (undefined) FE /3 (R372). -/
  | undefinedFE3 (h : Head) (m : ModRmBits)
  /-- `FE /4` (undefined) FE /4 (R372). -/
  | undefinedFE4 (h : Head) (m : ModRmBits)
  /-- `FE /5` (undefined) FE /5 (R372). -/
  | undefinedFE5 (h : Head) (m : ModRmBits)
  /-- `FE /6` (undefined) FE /6 (R372). -/
  | undefinedFE6 (h : Head) (m : ModRmBits)
  /-- `FE /7` (undefined) FE /7 (R372). -/
  | undefinedFE7 (h : Head) (m : ModRmBits)
  /-- `FF /7` (undefined) FF /7 (R372). -/
  | undefinedFF7 (h : Head) (m : ModRmBits)
  /-- `C0 /0` ROL Eb, Ib (R813). -/
  | rolEbIb (h : Head) (e : EOperand) (v : BitVec 8)
  /-- `C0 /1` ROR Eb, Ib (R814). -/
  | rorEbIb (h : Head) (e : EOperand) (v : BitVec 8)
  /-- `C0 /2` RCL Eb, Ib (R815). -/
  | rclEbIb (h : Head) (e : EOperand) (v : BitVec 8)
  /-- `C0 /3` RCR Eb, Ib (R816). -/
  | rcrEbIb (h : Head) (e : EOperand) (v : BitVec 8)
  /-- `C0 /4` SHL Eb, Ib (R810). -/
  | shlEbIb (h : Head) (e : EOperand) (v : BitVec 8)
  /-- `C0 /5` SHR Eb, Ib (R811). -/
  | shrEbIb (h : Head) (e : EOperand) (v : BitVec 8)
  /-- `C0 /6` SHL Eb, Ib (/6 alias of /4) (R371). -/
  | shlEbIbSlash6 (h : Head) (a : Aliased (EOperand × BitVec 8))
  /-- `C0 /7` SAR Eb, Ib (R812). -/
  | sarEbIb (h : Head) (e : EOperand) (v : BitVec 8)
  /-- `C1 /0` ROL Ev, Ib (R813). -/
  | rolEvIb (h : Head) (e : EOperand) (v : BitVec 8)
  /-- `C1 /1` ROR Ev, Ib (R814). -/
  | rorEvIb (h : Head) (e : EOperand) (v : BitVec 8)
  /-- `C1 /2` RCL Ev, Ib (R815). -/
  | rclEvIb (h : Head) (e : EOperand) (v : BitVec 8)
  /-- `C1 /3` RCR Ev, Ib (R816). -/
  | rcrEvIb (h : Head) (e : EOperand) (v : BitVec 8)
  /-- `C1 /4` SHL Ev, Ib (R810). -/
  | shlEvIb (h : Head) (e : EOperand) (v : BitVec 8)
  /-- `C1 /5` SHR Ev, Ib (R811). -/
  | shrEvIb (h : Head) (e : EOperand) (v : BitVec 8)
  /-- `C1 /6` SHL Ev, Ib (/6 alias of /4) (R371). -/
  | shlEvIbSlash6 (h : Head) (a : Aliased (EOperand × BitVec 8))
  /-- `C1 /7` SAR Ev, Ib (R812). -/
  | sarEvIb (h : Head) (e : EOperand) (v : BitVec 8)
  /-- `D0 /0` ROL Eb, 1 (R813). -/
  | rolEb1 (h : Head) (e : EOperand)
  /-- `D0 /1` ROR Eb, 1 (R814). -/
  | rorEb1 (h : Head) (e : EOperand)
  /-- `D0 /2` RCL Eb, 1 (R815). -/
  | rclEb1 (h : Head) (e : EOperand)
  /-- `D0 /3` RCR Eb, 1 (R816). -/
  | rcrEb1 (h : Head) (e : EOperand)
  /-- `D0 /4` SHL Eb, 1 (R810). -/
  | shlEb1 (h : Head) (e : EOperand)
  /-- `D0 /5` SHR Eb, 1 (R811). -/
  | shrEb1 (h : Head) (e : EOperand)
  /-- `D0 /6` SHL Eb, 1 (/6 alias of /4) (R371). -/
  | shlEb1Slash6 (h : Head) (a : Aliased EOperand)
  /-- `D0 /7` SAR Eb, 1 (R812). -/
  | sarEb1 (h : Head) (e : EOperand)
  /-- `D1 /0` ROL Ev, 1 (R813). -/
  | rolEv1 (h : Head) (e : EOperand)
  /-- `D1 /1` ROR Ev, 1 (R814). -/
  | rorEv1 (h : Head) (e : EOperand)
  /-- `D1 /2` RCL Ev, 1 (R815). -/
  | rclEv1 (h : Head) (e : EOperand)
  /-- `D1 /3` RCR Ev, 1 (R816). -/
  | rcrEv1 (h : Head) (e : EOperand)
  /-- `D1 /4` SHL Ev, 1 (R810). -/
  | shlEv1 (h : Head) (e : EOperand)
  /-- `D1 /5` SHR Ev, 1 (R811). -/
  | shrEv1 (h : Head) (e : EOperand)
  /-- `D1 /6` SHL Ev, 1 (/6 alias of /4) (R371). -/
  | shlEv1Slash6 (h : Head) (a : Aliased EOperand)
  /-- `D1 /7` SAR Ev, 1 (R812). -/
  | sarEv1 (h : Head) (e : EOperand)
  /-- `D2 /0` ROL Eb, CL (R813). -/
  | rolEbCL (h : Head) (e : EOperand)
  /-- `D2 /1` ROR Eb, CL (R814). -/
  | rorEbCL (h : Head) (e : EOperand)
  /-- `D2 /2` RCL Eb, CL (R815). -/
  | rclEbCL (h : Head) (e : EOperand)
  /-- `D2 /3` RCR Eb, CL (R816). -/
  | rcrEbCL (h : Head) (e : EOperand)
  /-- `D2 /4` SHL Eb, CL (R810). -/
  | shlEbCL (h : Head) (e : EOperand)
  /-- `D2 /5` SHR Eb, CL (R811). -/
  | shrEbCL (h : Head) (e : EOperand)
  /-- `D2 /6` SHL Eb, CL (/6 alias of /4) (R371). -/
  | shlEbCLSlash6 (h : Head) (a : Aliased EOperand)
  /-- `D2 /7` SAR Eb, CL (R812). -/
  | sarEbCL (h : Head) (e : EOperand)
  /-- `D3 /0` ROL Ev, CL (R813). -/
  | rolEvCL (h : Head) (e : EOperand)
  /-- `D3 /1` ROR Ev, CL (R814). -/
  | rorEvCL (h : Head) (e : EOperand)
  /-- `D3 /2` RCL Ev, CL (R815). -/
  | rclEvCL (h : Head) (e : EOperand)
  /-- `D3 /3` RCR Ev, CL (R816). -/
  | rcrEvCL (h : Head) (e : EOperand)
  /-- `D3 /4` SHL Ev, CL (R810). -/
  | shlEvCL (h : Head) (e : EOperand)
  /-- `D3 /5` SHR Ev, CL (R811). -/
  | shrEvCL (h : Head) (e : EOperand)
  /-- `D3 /6` SHL Ev, CL (/6 alias of /4) (R371). -/
  | shlEvCLSlash6 (h : Head) (a : Aliased EOperand)
  /-- `D3 /7` SAR Ev, CL (R812). -/
  | sarEvCL (h : Head) (e : EOperand)
  /-- `69` IMUL Gv, Ev, Iz (R713). -/
  | imulGvEvIz (h : Head) (r : Reg) (e : EOperand) (v : BitVec 32)
  /-- `6B` IMUL Gv, Ev, Ib (R713). -/
  | imulGvEvIb (h : Head) (r : Reg) (e : EOperand) (v : BitVec 8)
  /-- `0F AF` IMUL Gv, Ev (R712). -/
  | imulGvEv (h : Head) (r : Reg) (e : EOperand)
  /-- `70` JO Jb (R930). -/
  | joJb (h : Head) (v : BitVec 8)
  /-- `71` JNO Jb (R931). -/
  | jnoJb (h : Head) (v : BitVec 8)
  /-- `72` JB Jb (R932). -/
  | jbJb (h : Head) (v : BitVec 8)
  /-- `73` JAE Jb (R933). -/
  | jaeJb (h : Head) (v : BitVec 8)
  /-- `74` JE Jb (R934). -/
  | jeJb (h : Head) (v : BitVec 8)
  /-- `75` JNE Jb (R935). -/
  | jneJb (h : Head) (v : BitVec 8)
  /-- `76` JBE Jb (R936). -/
  | jbeJb (h : Head) (v : BitVec 8)
  /-- `77` JA Jb (R937). -/
  | jaJb (h : Head) (v : BitVec 8)
  /-- `78` JS Jb (R938). -/
  | jsJb (h : Head) (v : BitVec 8)
  /-- `79` JNS Jb (R939). -/
  | jnsJb (h : Head) (v : BitVec 8)
  /-- `7A` JP Jb (R940). -/
  | jpJb (h : Head) (v : BitVec 8)
  /-- `7B` JNP Jb (R941). -/
  | jnpJb (h : Head) (v : BitVec 8)
  /-- `7C` JL Jb (R942). -/
  | jlJb (h : Head) (v : BitVec 8)
  /-- `7D` JGE Jb (R943). -/
  | jgeJb (h : Head) (v : BitVec 8)
  /-- `7E` JLE Jb (R944). -/
  | jleJb (h : Head) (v : BitVec 8)
  /-- `7F` JG Jb (R945). -/
  | jgJb (h : Head) (v : BitVec 8)
  /-- `0F 80` JO Jz (R930). -/
  | joJz (h : Head) (v : BitVec 32)
  /-- `0F 81` JNO Jz (R931). -/
  | jnoJz (h : Head) (v : BitVec 32)
  /-- `0F 82` JB Jz (R932). -/
  | jbJz (h : Head) (v : BitVec 32)
  /-- `0F 83` JAE Jz (R933). -/
  | jaeJz (h : Head) (v : BitVec 32)
  /-- `0F 84` JE Jz (R934). -/
  | jeJz (h : Head) (v : BitVec 32)
  /-- `0F 85` JNE Jz (R935). -/
  | jneJz (h : Head) (v : BitVec 32)
  /-- `0F 86` JBE Jz (R936). -/
  | jbeJz (h : Head) (v : BitVec 32)
  /-- `0F 87` JA Jz (R937). -/
  | jaJz (h : Head) (v : BitVec 32)
  /-- `0F 88` JS Jz (R938). -/
  | jsJz (h : Head) (v : BitVec 32)
  /-- `0F 89` JNS Jz (R939). -/
  | jnsJz (h : Head) (v : BitVec 32)
  /-- `0F 8A` JP Jz (R940). -/
  | jpJz (h : Head) (v : BitVec 32)
  /-- `0F 8B` JNP Jz (R941). -/
  | jnpJz (h : Head) (v : BitVec 32)
  /-- `0F 8C` JL Jz (R942). -/
  | jlJz (h : Head) (v : BitVec 32)
  /-- `0F 8D` JGE Jz (R943). -/
  | jgeJz (h : Head) (v : BitVec 32)
  /-- `0F 8E` JLE Jz (R944). -/
  | jleJz (h : Head) (v : BitVec 32)
  /-- `0F 8F` JG Jz (R945). -/
  | jgJz (h : Head) (v : BitVec 32)
  /-- `0F 90` SETO Eb (R950). -/
  | setoEb (h : Head) (r : Reg) (e : EOperand)
  /-- `0F 91` SETNO Eb (R951). -/
  | setnoEb (h : Head) (r : Reg) (e : EOperand)
  /-- `0F 92` SETB Eb (R952). -/
  | setbEb (h : Head) (r : Reg) (e : EOperand)
  /-- `0F 93` SETAE Eb (R953). -/
  | setaeEb (h : Head) (r : Reg) (e : EOperand)
  /-- `0F 94` SETE Eb (R954). -/
  | seteEb (h : Head) (r : Reg) (e : EOperand)
  /-- `0F 95` SETNE Eb (R955). -/
  | setneEb (h : Head) (r : Reg) (e : EOperand)
  /-- `0F 96` SETBE Eb (R956). -/
  | setbeEb (h : Head) (r : Reg) (e : EOperand)
  /-- `0F 97` SETA Eb (R957). -/
  | setaEb (h : Head) (r : Reg) (e : EOperand)
  /-- `0F 98` SETS Eb (R958). -/
  | setsEb (h : Head) (r : Reg) (e : EOperand)
  /-- `0F 99` SETNS Eb (R959). -/
  | setnsEb (h : Head) (r : Reg) (e : EOperand)
  /-- `0F 9A` SETP Eb (R960). -/
  | setpEb (h : Head) (r : Reg) (e : EOperand)
  /-- `0F 9B` SETNP Eb (R961). -/
  | setnpEb (h : Head) (r : Reg) (e : EOperand)
  /-- `0F 9C` SETL Eb (R962). -/
  | setlEb (h : Head) (r : Reg) (e : EOperand)
  /-- `0F 9D` SETGE Eb (R963). -/
  | setgeEb (h : Head) (r : Reg) (e : EOperand)
  /-- `0F 9E` SETLE Eb (R964). -/
  | setleEb (h : Head) (r : Reg) (e : EOperand)
  /-- `0F 9F` SETG Eb (R965). -/
  | setgEb (h : Head) (r : Reg) (e : EOperand)
  /-- `F8` CLC (R901). -/
  | clc (h : Head)
  /-- `F9` STC (R902). -/
  | stc (h : Head)
  /-- `F5` CMC (R903). -/
  | cmc (h : Head)
  /-- `9F` LAHF (R904). -/
  | lahf (h : Head)
  /-- `9E` SAHF (R905). -/
  | sahf (h : Head)
  /-- `E4` IN AL, Ib (R1002). -/
  | inALIb (h : Head) (v : BitVec 8)
  /-- `E5` IN eAX, Ib (R1002). -/
  | inEAXIb (h : Head) (v : BitVec 8)
  /-- `EC` IN AL, DX (R1002). -/
  | inALDX (h : Head)
  /-- `ED` IN eAX, DX (R1002). -/
  | inEAXDX (h : Head)
  /-- `E6` OUT Ib, AL (R1003). -/
  | outIbAL (h : Head) (v : BitVec 8)
  /-- `E7` OUT Ib, eAX (R1003). -/
  | outIbEAX (h : Head) (v : BitVec 8)
  /-- `EE` OUT DX, AL (R1003). -/
  | outDXAL (h : Head)
  /-- `EF` OUT DX, eAX (R1003). -/
  | outDXEAX (h : Head)
  /-- `CC` INT3 (R1011). -/
  | int3 (h : Head)
  /-- `CD` INT Ib (R1012). -/
  | intIb (h : Head) (v : BitVec 8)
  /-- `CE` INTO (R1013). -/
  | into (h : Head)
deriving DecidableEq, Repr

/-- The ModRM part of an instruction as syntax. -/
inductive RmField where
  | none
  /-- An `r/m` operand; `reg` is the `reg` field where it is an operand or is ignored, absent in a group row. -/
  | operand (reg : Option Reg) (e : EOperand)
  /-- A ModRM byte that is read and not resolved. -/
  | bits (m : ModRmBits)
deriving DecidableEq, Repr

/-- The immediate part of an instruction as syntax (30_encoding R342). -/
inductive ImmField where
  | none
  | ib (v : BitVec 8)
  | iz (v : BitVec 32)
deriving DecidableEq, Repr

/-- The parts every instruction has, as one record: its head, its ModRM part, its immediate, and, for an alias row, the policy under which the decoder reads it in this form. -/
structure Fields where
  head : Head
  rm : RmField
  imm : ImmField
  policy : Option AliasPolicy
deriving DecidableEq, Repr

/-- A row with a `reg` register and an `r/m` operand. -/
def Fields.eg (h : Head) (r : Reg) (e : EOperand) (i : ImmField) : Fields :=
  { head := h, rm := .operand (some r) e, imm := i, policy := none }

/-- A group row: an `r/m` operand and perhaps an immediate. -/
def Fields.e (h : Head) (e : EOperand) (i : ImmField) : Fields :=
  { head := h, rm := .operand none e, imm := i, policy := none }

/-- A row without a ModRM byte. -/
def Fields.plain (h : Head) (i : ImmField) : Fields :=
  { head := h, rm := .none, imm := i, policy := none }

/-- A row that raises `#UD` at its ModRM byte. -/
def Fields.undef (h : Head) (m : ModRmBits) : Fields :=
  { head := h, rm := .bits m, imm := .none, policy := none }

/-- An alias row, in the form its policy gives it. -/
def Fields.aliasRow {α : Type} (h : Head) (a : Aliased α) (e : α → EOperand) (i : α → ImmField) : Fields :=
  match a with
  | .twin ops => { Fields.e h (e ops) (i ops) with policy := some .twin }
  | .undefinedOpcode m => { Fields.undef h m with policy := some .undefinedOpcode }

/-- The parts of an instruction. -/
def Instr.fields : Instr → Fields
  | .addEbGb h r e => .eg h r e .none
  | .addEvGv h r e => .eg h r e .none
  | .addGbEb h r e => .eg h r e .none
  | .addGvEv h r e => .eg h r e .none
  | .addALIb h v => .plain h (.ib v)
  | .addEAXIz h v => .plain h (.iz v)
  | .orEbGb h r e => .eg h r e .none
  | .orEvGv h r e => .eg h r e .none
  | .orGbEb h r e => .eg h r e .none
  | .orGvEv h r e => .eg h r e .none
  | .orALIb h v => .plain h (.ib v)
  | .orEAXIz h v => .plain h (.iz v)
  | .adcEbGb h r e => .eg h r e .none
  | .adcEvGv h r e => .eg h r e .none
  | .adcGbEb h r e => .eg h r e .none
  | .adcGvEv h r e => .eg h r e .none
  | .adcALIb h v => .plain h (.ib v)
  | .adcEAXIz h v => .plain h (.iz v)
  | .sbbEbGb h r e => .eg h r e .none
  | .sbbEvGv h r e => .eg h r e .none
  | .sbbGbEb h r e => .eg h r e .none
  | .sbbGvEv h r e => .eg h r e .none
  | .sbbALIb h v => .plain h (.ib v)
  | .sbbEAXIz h v => .plain h (.iz v)
  | .andEbGb h r e => .eg h r e .none
  | .andEvGv h r e => .eg h r e .none
  | .andGbEb h r e => .eg h r e .none
  | .andGvEv h r e => .eg h r e .none
  | .andALIb h v => .plain h (.ib v)
  | .andEAXIz h v => .plain h (.iz v)
  | .subEbGb h r e => .eg h r e .none
  | .subEvGv h r e => .eg h r e .none
  | .subGbEb h r e => .eg h r e .none
  | .subGvEv h r e => .eg h r e .none
  | .subALIb h v => .plain h (.ib v)
  | .subEAXIz h v => .plain h (.iz v)
  | .xorEbGb h r e => .eg h r e .none
  | .xorEvGv h r e => .eg h r e .none
  | .xorGbEb h r e => .eg h r e .none
  | .xorGvEv h r e => .eg h r e .none
  | .xorALIb h v => .plain h (.ib v)
  | .xorEAXIz h v => .plain h (.iz v)
  | .cmpEbGb h r e => .eg h r e .none
  | .cmpEvGv h r e => .eg h r e .none
  | .cmpGbEb h r e => .eg h r e .none
  | .cmpGvEv h r e => .eg h r e .none
  | .cmpALIb h v => .plain h (.ib v)
  | .cmpEAXIz h v => .plain h (.iz v)
  | .incZv h _ => .plain h .none
  | .decZv h _ => .plain h .none
  | .addEbIb h e v => .e h e (.ib v)
  | .orEbIb h e v => .e h e (.ib v)
  | .adcEbIb h e v => .e h e (.ib v)
  | .sbbEbIb h e v => .e h e (.ib v)
  | .andEbIb h e v => .e h e (.ib v)
  | .subEbIb h e v => .e h e (.ib v)
  | .xorEbIb h e v => .e h e (.ib v)
  | .cmpEbIb h e v => .e h e (.ib v)
  | .addEvIz h e v => .e h e (.iz v)
  | .orEvIz h e v => .e h e (.iz v)
  | .adcEvIz h e v => .e h e (.iz v)
  | .sbbEvIz h e v => .e h e (.iz v)
  | .andEvIz h e v => .e h e (.iz v)
  | .subEvIz h e v => .e h e (.iz v)
  | .xorEvIz h e v => .e h e (.iz v)
  | .cmpEvIz h e v => .e h e (.iz v)
  | .addEvIb h e v => .e h e (.ib v)
  | .orEvIb h e v => .e h e (.ib v)
  | .adcEvIb h e v => .e h e (.ib v)
  | .sbbEvIb h e v => .e h e (.ib v)
  | .andEvIb h e v => .e h e (.ib v)
  | .subEvIb h e v => .e h e (.ib v)
  | .xorEvIb h e v => .e h e (.ib v)
  | .cmpEvIb h e v => .e h e (.ib v)
  | .addEbIb82 h a => .aliasRow h a (·.1) (fun x => .ib x.2)
  | .orEbIb82 h a => .aliasRow h a (·.1) (fun x => .ib x.2)
  | .adcEbIb82 h a => .aliasRow h a (·.1) (fun x => .ib x.2)
  | .sbbEbIb82 h a => .aliasRow h a (·.1) (fun x => .ib x.2)
  | .andEbIb82 h a => .aliasRow h a (·.1) (fun x => .ib x.2)
  | .subEbIb82 h a => .aliasRow h a (·.1) (fun x => .ib x.2)
  | .xorEbIb82 h a => .aliasRow h a (·.1) (fun x => .ib x.2)
  | .cmpEbIb82 h a => .aliasRow h a (·.1) (fun x => .ib x.2)
  | .testEbGb h r e => .eg h r e .none
  | .testEvGv h r e => .eg h r e .none
  | .testALIb h v => .plain h (.ib v)
  | .testEAXIz h v => .plain h (.iz v)
  | .testEbIb h e v => .e h e (.ib v)
  | .testEbIbSlash1 h a => .aliasRow h a (·.1) (fun x => .ib x.2)
  | .notEb h e => .e h e .none
  | .negEb h e => .e h e .none
  | .mulEb h e => .e h e .none
  | .imulEb h e => .e h e .none
  | .divEb h e => .e h e .none
  | .idivEb h e => .e h e .none
  | .testEvIz h e v => .e h e (.iz v)
  | .testEvIzSlash1 h a => .aliasRow h a (·.1) (fun x => .iz x.2)
  | .notEv h e => .e h e .none
  | .negEv h e => .e h e .none
  | .mulEv h e => .e h e .none
  | .imulEv h e => .e h e .none
  | .divEv h e => .e h e .none
  | .idivEv h e => .e h e .none
  | .incEb h e => .e h e .none
  | .decEb h e => .e h e .none
  | .incEv h e => .e h e .none
  | .decEv h e => .e h e .none
  | .undefinedFE2 h m => .undef h m
  | .undefinedFE3 h m => .undef h m
  | .undefinedFE4 h m => .undef h m
  | .undefinedFE5 h m => .undef h m
  | .undefinedFE6 h m => .undef h m
  | .undefinedFE7 h m => .undef h m
  | .undefinedFF7 h m => .undef h m
  | .rolEbIb h e v => .e h e (.ib v)
  | .rorEbIb h e v => .e h e (.ib v)
  | .rclEbIb h e v => .e h e (.ib v)
  | .rcrEbIb h e v => .e h e (.ib v)
  | .shlEbIb h e v => .e h e (.ib v)
  | .shrEbIb h e v => .e h e (.ib v)
  | .shlEbIbSlash6 h a => .aliasRow h a (·.1) (fun x => .ib x.2)
  | .sarEbIb h e v => .e h e (.ib v)
  | .rolEvIb h e v => .e h e (.ib v)
  | .rorEvIb h e v => .e h e (.ib v)
  | .rclEvIb h e v => .e h e (.ib v)
  | .rcrEvIb h e v => .e h e (.ib v)
  | .shlEvIb h e v => .e h e (.ib v)
  | .shrEvIb h e v => .e h e (.ib v)
  | .shlEvIbSlash6 h a => .aliasRow h a (·.1) (fun x => .ib x.2)
  | .sarEvIb h e v => .e h e (.ib v)
  | .rolEb1 h e => .e h e .none
  | .rorEb1 h e => .e h e .none
  | .rclEb1 h e => .e h e .none
  | .rcrEb1 h e => .e h e .none
  | .shlEb1 h e => .e h e .none
  | .shrEb1 h e => .e h e .none
  | .shlEb1Slash6 h a => .aliasRow h a id (fun _ => .none)
  | .sarEb1 h e => .e h e .none
  | .rolEv1 h e => .e h e .none
  | .rorEv1 h e => .e h e .none
  | .rclEv1 h e => .e h e .none
  | .rcrEv1 h e => .e h e .none
  | .shlEv1 h e => .e h e .none
  | .shrEv1 h e => .e h e .none
  | .shlEv1Slash6 h a => .aliasRow h a id (fun _ => .none)
  | .sarEv1 h e => .e h e .none
  | .rolEbCL h e => .e h e .none
  | .rorEbCL h e => .e h e .none
  | .rclEbCL h e => .e h e .none
  | .rcrEbCL h e => .e h e .none
  | .shlEbCL h e => .e h e .none
  | .shrEbCL h e => .e h e .none
  | .shlEbCLSlash6 h a => .aliasRow h a id (fun _ => .none)
  | .sarEbCL h e => .e h e .none
  | .rolEvCL h e => .e h e .none
  | .rorEvCL h e => .e h e .none
  | .rclEvCL h e => .e h e .none
  | .rcrEvCL h e => .e h e .none
  | .shlEvCL h e => .e h e .none
  | .shrEvCL h e => .e h e .none
  | .shlEvCLSlash6 h a => .aliasRow h a id (fun _ => .none)
  | .sarEvCL h e => .e h e .none
  | .imulGvEvIz h r e v => .eg h r e (.iz v)
  | .imulGvEvIb h r e v => .eg h r e (.ib v)
  | .imulGvEv h r e => .eg h r e .none
  | .joJb h v => .plain h (.ib v)
  | .jnoJb h v => .plain h (.ib v)
  | .jbJb h v => .plain h (.ib v)
  | .jaeJb h v => .plain h (.ib v)
  | .jeJb h v => .plain h (.ib v)
  | .jneJb h v => .plain h (.ib v)
  | .jbeJb h v => .plain h (.ib v)
  | .jaJb h v => .plain h (.ib v)
  | .jsJb h v => .plain h (.ib v)
  | .jnsJb h v => .plain h (.ib v)
  | .jpJb h v => .plain h (.ib v)
  | .jnpJb h v => .plain h (.ib v)
  | .jlJb h v => .plain h (.ib v)
  | .jgeJb h v => .plain h (.ib v)
  | .jleJb h v => .plain h (.ib v)
  | .jgJb h v => .plain h (.ib v)
  | .joJz h v => .plain h (.iz v)
  | .jnoJz h v => .plain h (.iz v)
  | .jbJz h v => .plain h (.iz v)
  | .jaeJz h v => .plain h (.iz v)
  | .jeJz h v => .plain h (.iz v)
  | .jneJz h v => .plain h (.iz v)
  | .jbeJz h v => .plain h (.iz v)
  | .jaJz h v => .plain h (.iz v)
  | .jsJz h v => .plain h (.iz v)
  | .jnsJz h v => .plain h (.iz v)
  | .jpJz h v => .plain h (.iz v)
  | .jnpJz h v => .plain h (.iz v)
  | .jlJz h v => .plain h (.iz v)
  | .jgeJz h v => .plain h (.iz v)
  | .jleJz h v => .plain h (.iz v)
  | .jgJz h v => .plain h (.iz v)
  | .setoEb h r e => .eg h r e .none
  | .setnoEb h r e => .eg h r e .none
  | .setbEb h r e => .eg h r e .none
  | .setaeEb h r e => .eg h r e .none
  | .seteEb h r e => .eg h r e .none
  | .setneEb h r e => .eg h r e .none
  | .setbeEb h r e => .eg h r e .none
  | .setaEb h r e => .eg h r e .none
  | .setsEb h r e => .eg h r e .none
  | .setnsEb h r e => .eg h r e .none
  | .setpEb h r e => .eg h r e .none
  | .setnpEb h r e => .eg h r e .none
  | .setlEb h r e => .eg h r e .none
  | .setgeEb h r e => .eg h r e .none
  | .setleEb h r e => .eg h r e .none
  | .setgEb h r e => .eg h r e .none
  | .clc h => .plain h .none
  | .stc h => .plain h .none
  | .cmc h => .plain h .none
  | .lahf h => .plain h .none
  | .sahf h => .plain h .none
  | .inALIb h v => .plain h (.ib v)
  | .inEAXIb h v => .plain h (.ib v)
  | .inALDX h => .plain h .none
  | .inEAXDX h => .plain h .none
  | .outIbAL h v => .plain h (.ib v)
  | .outIbEAX h v => .plain h (.ib v)
  | .outDXAL h => .plain h .none
  | .outDXEAX h => .plain h .none
  | .int3 h => .plain h .none
  | .intIb h v => .plain h (.ib v)
  | .into h => .plain h .none

/-- The common record of an instruction. -/
def Instr.head (i : Instr) : Head := i.fields.head

end Sys2Proof
end

