-- ==== Sys2Proof/Decode.lean ====
section
/-!
DEFINITION. The decoder of the block, total on any bytes (30_encoding R300-R327, R350-R373), and after it the
encoder. The decoder reads a window of at most 15 bytes and says how many of them it read, so that the step can
make exactly those fetches (30_encoding R350, R351).
-/
namespace Sys2Proof

/-! ### Reading the stream -/

/-- How a decode stops short of an instruction (30_encoding R350). -/
inductive DecodeStop where
  | refuse (r : RefuseReason)
  | fatal (r : DecodeFaultReason)
deriving DecidableEq, Repr

/-- The outcome of reading a part of the stream: a value, or a stop, with the bytes not yet read. -/
inductive Parse (α : Type) where
  | done (a : α) (rest : List Byte)
  | stop (x : DecodeStop) (rest : List Byte)

/-- Read one part, then the next. -/
def Parse.bind {α β : Type} (p : Parse α) (f : α → List Byte → Parse β) : Parse β :=
  match p with
  | .done a rest => f a rest
  | .stop x rest => .stop x rest

/-- Apply a function to the value read. -/
def Parse.map {α β : Type} (f : α → β) (p : Parse α) : Parse β :=
  p.bind fun a rest => .done (f a) rest

/-- The most bytes an instruction has (30_encoding R303). -/
def maxLength : Nat := 15

/-- `fetch8` (30_encoding R302). The list is the rest of the 15-byte window: past its end a 16th byte would be
needed, so the decode ends in `Refuse(TooLong)` (R303; log 24). -/
def fetch8 : List Byte → Parse Byte
  | [] => .stop (.refuse .tooLong) []
  | b :: rest => .done b rest

/-- `fetchN(2)`, little-endian (30_encoding R302). -/
def fetch16 (bs : List Byte) : Parse (BitVec 16) :=
  (fetch8 bs).bind fun b0 bs => (fetch8 bs).bind fun b1 bs => .done (b1 ++ b0) bs

/-- `fetchN(4)`, little-endian (30_encoding R302). -/
def fetch32 (bs : List Byte) : Parse (BitVec 32) :=
  (fetch16 bs).bind fun w0 bs => (fetch16 bs).bind fun w1 bs => .done (w1 ++ w0) bs

/-- An immediate field of `k` bytes, zero-extended (30_encoding R342); a size outside 1, 2, 4 is the decode
fault `UnsupportedImmediateSize` (30_encoding R339). -/
def fetchImmediate (k : Nat) (bs : List Byte) : Parse (BitVec 32) :=
  match k with
  | 1 => (fetch8 bs).map (BitVec.setWidth 32)
  | 2 => (fetch16 bs).map (BitVec.setWidth 32)
  | 4 => fetch32 bs
  | _ => .stop (.fatal .unsupportedImmediateSize) bs

/-- The bytes of an `Iz` or `Jz` field (30_encoding R342). -/
def Size.immediateBytes : Size → Nat
  | .b16 => 2
  | .b32 => 4

/-- An `Ib` or `Jb` field. -/
def fetchIb (bs : List Byte) : Parse (BitVec 8) :=
  (fetchImmediate 1 bs).map (BitVec.setWidth 8)

/-- An `Iz` or `Jz` field at an operand size. -/
def fetchIz (opSize : Size) (bs : List Byte) : Parse (BitVec 32) :=
  fetchImmediate opSize.immediateBytes bs

/-! ### Numbers of registers and segments -/

/-- The register of a 3-bit number (10_state R100). -/
def Reg.ofBits (b : BitVec 3) : Reg :=
  match b.toNat with
  | 0 => .ax
  | 1 => .cx
  | 2 => .dx
  | 3 => .bx
  | 4 => .sp
  | 5 => .bp
  | 6 => .si
  | _ => .di

/-- The number of a register (10_state R100). -/
def Reg.toBits : Reg → BitVec 3
  | .ax => 0#3
  | .cx => 1#3
  | .dx => 2#3
  | .bx => 3#3
  | .sp => 4#3
  | .bp => 5#3
  | .si => 6#3
  | .di => 7#3

/-- The 16-bit base combination of `rm` (30_encoding R315). -/
def Base16.ofBits (b : BitVec 3) : Base16 :=
  match b.toNat with
  | 0 => .bxSi
  | 1 => .bxDi
  | 2 => .bpSi
  | 3 => .bpDi
  | 4 => .si
  | 5 => .di
  | 6 => .bp
  | _ => .bx

/-- The `rm` of a 16-bit base combination (30_encoding R315). -/
def Base16.toBits : Base16 → BitVec 3
  | .bxSi => 0#3
  | .bxDi => 1#3
  | .bpSi => 2#3
  | .bpDi => 3#3
  | .si => 4#3
  | .di => 5#3
  | .bp => 6#3
  | .bx => 7#3

/-! ### Prefixes -/

/-- What a byte means where a prefix may stand (30_encoding R305). -/
inductive PrefixByte where
  | accepted (p : Prefix)
  | lock
  | rep
  | opcode
deriving DecidableEq, Repr

/-- The prefix bytes (30_encoding R305). -/
def prefixByte (b : Byte) : PrefixByte :=
  match b.toNat with
  | 0x26 => .accepted (.seg .es)
  | 0x2E => .accepted (.seg .cs)
  | 0x36 => .accepted (.seg .ss)
  | 0x3E => .accepted (.seg .ds)
  | 0x64 => .accepted (.seg .fs)
  | 0x65 => .accepted (.seg .gs)
  | 0x66 => .accepted .operandSize
  | 0x67 => .accepted .addressSize
  | 0xF0 => .lock
  | 0xF2 => .rep
  | 0xF3 => .rep
  | _ => .opcode

/-- The byte of a prefix (30_encoding R305). -/
def Prefix.toByte : Prefix → Byte
  | .seg .es => 0x26#8
  | .seg .cs => 0x2E#8
  | .seg .ss => 0x36#8
  | .seg .ds => 0x3E#8
  | .seg .fs => 0x64#8
  | .seg .gs => 0x65#8
  | .operandSize => 0x66#8
  | .addressSize => 0x67#8

/-- The segment a prefix names, if it is an override. -/
def Prefix.segment : Prefix → Option Seg
  | .seg s => some s
  | .operandSize => none
  | .addressSize => none

/-- Whether a prefix names a segment other than the one already named (30_encoding R305). -/
def segmentConflict (seen : Option Seg) (p : Prefix) : Bool :=
  match seen, p.segment with
  | some s, some s' => s != s'
  | _, _ => false

/-- The segment named after a prefix: a prefix that names none keeps it. -/
def segmentAfter (seen : Option Seg) (p : Prefix) : Option Seg :=
  match p.segment with
  | some s => some s
  | none => seen

/-- Read the prefixes, up to the first byte that is none, which stays unread (30_encoding R305, R308, R350).
`seen` is the segment override met so far. -/
def scanPrefixes (seen : Option Seg) : List Byte → Parse (List Prefix)
  | [] => .stop (.refuse .tooLong) []
  | b :: rest =>
    match prefixByte b with
    | .opcode => .done [] (b :: rest)
    | .lock => .stop (.refuse .lockPrefix) rest
    | .rep => .stop (.refuse .repPrefix) rest
    | .accepted p =>
      if segmentConflict seen p then .stop (.refuse .multipleSegmentOverrides) rest
      else (scanPrefixes (segmentAfter seen p) rest).map (p :: ·)

/-- `opSize` (30_encoding R306). -/
def Mode.opSize (m : Mode) (ps : List Prefix) : Size :=
  if ps.contains .operandSize then m.codeSize.other else m.codeSize

/-- `addrSize` (30_encoding R306). -/
def Mode.addrSize (m : Mode) (ps : List Prefix) : Size :=
  if ps.contains .addressSize then m.codeSize.other else m.codeSize

/-- The segment override of an instruction, if it has one (30_encoding R305, R307). -/
def Head.segmentOverride (h : Head) : Option Seg := h.prefixes.findSome? Prefix.segment

/-! ### ModRM, SIB and displacement -/

/-- `mod`, the top two bits of a ModRM byte (30_encoding R310). -/
def modField (b : Byte) : BitVec 2 := b.extractLsb' 6 2

/-- `reg`, its middle three bits. -/
def regField (b : Byte) : BitVec 3 := b.extractLsb' 3 3

/-- `rm`, its low three bits. -/
def rmField (b : Byte) : BitVec 3 := b.extractLsb' 0 3

/-- The displacement of a 16-bit form by `mod` (30_encoding R316). -/
def fetchDisp16 (mod : BitVec 2) (bs : List Byte) : Parse Disp16 :=
  match mod.toNat with
  | 0 => .done .none bs
  | 1 => (fetch8 bs).map .d8
  | _ => (fetch16 bs).map .d16

/-- The displacement of a 32-bit form by `mod` (30_encoding R320). -/
def fetchDisp32 (mod : BitVec 2) (bs : List Byte) : Parse Disp32 :=
  match mod.toNat with
  | 0 => .done .none bs
  | 1 => (fetch8 bs).map .d8
  | _ => (fetch32 bs).map .d32

/-- The 16-bit addressing forms (30_encoding R315, R316). -/
def fetchMem16 (mod : BitVec 2) (rm : BitVec 3) (bs : List Byte) : Parse EOperand :=
  if mod = 0#2 ∧ rm = 6#3 then (fetch16 bs).map .direct16
  else (fetchDisp16 mod bs).map (.mem16 (Base16.ofBits rm))

/-- The SIB byte and what follows it (30_encoding R320, R321, R323). The SIB fields stand where the ModRM fields
stand: scale, index, base. -/
def fetchSib (mod : BitVec 2) (bs : List Byte) : Parse EOperand :=
  (fetch8 bs).bind fun sib bs =>
    if mod = 0#2 ∧ rmField sib = 5#3 then
      (fetch32 bs).map (.sibNoBase (modField sib) (Reg.ofBits (regField sib)))
    else
      (fetchDisp32 mod bs).map (.sib (modField sib) (Reg.ofBits (regField sib)) (Reg.ofBits (rmField sib)))

/-- The 32-bit addressing forms (30_encoding R320). -/
def fetchMem32 (mod : BitVec 2) (rm : BitVec 3) (bs : List Byte) : Parse EOperand :=
  if rm = 4#3 then fetchSib mod bs
  else if mod = 0#2 ∧ rm = 5#3 then (fetch32 bs).map .direct32
  else (fetchDisp32 mod bs).map (.mem32 (Reg.ofBits rm))

/-- The `r/m` operand after the ModRM byte (30_encoding R312, R313, R350): a register when `mod = 3`, which in a
memory-only context is the decode fault `Mod3Violation`, else a memory form of the address size. -/
def fetchEOperand (memoryOnly : Bool) (addrSize : Size) (modrm : Byte) (bs : List Byte) : Parse EOperand :=
  if modField modrm = 3#2 then
    if memoryOnly then .stop (.fatal .mod3Violation) bs
    else .done (.reg (Reg.ofBits (rmField modrm))) bs
  else
    match addrSize with
    | .b16 => fetchMem16 (modField modrm) (rmField modrm) bs
    | .b32 => fetchMem32 (modField modrm) (rmField modrm) bs

/-! ### The opcode map -/

/-- A row of a group, selected by `reg` (30_encoding R311): how its operands are read and the instruction made. -/
inductive GroupRow where
  | e (mk : Head → EOperand → Instr)
  | eIb (mk : Head → EOperand → BitVec 8 → Instr)
  | eIz (mk : Head → EOperand → BitVec 32 → Instr)
  | aliasE (mk : Head → Aliased EOperand → Instr)
  | aliasEIb (mk : Head → Aliased (EOperand × BitVec 8) → Instr)
  | aliasEIz (mk : Head → Aliased (EOperand × BitVec 32) → Instr)
  | undefined (mk : Head → ModRmBits → Instr)
  | notInBlock

/-- A row of the one-byte or the two-byte map (30_encoding R355-R370). -/
inductive Row where
  | eg (mk : Head → Reg → EOperand → Instr)
  | egIb (mk : Head → Reg → EOperand → BitVec 8 → Instr)
  | egIz (mk : Head → Reg → EOperand → BitVec 32 → Instr)
  | ib (mk : Head → BitVec 8 → Instr)
  | iz (mk : Head → BitVec 32 → Instr)
  | plain (mk : Head → Instr)
  | group (rows : List GroupRow)

/-- The classic binary ALU block `00`-`3D` (30_encoding R355). -/
def mapBinary : List (Nat × Row) :=
  [ (0x00, .eg .addEbGb), (0x01, .eg .addEvGv), (0x02, .eg .addGbEb),
    (0x03, .eg .addGvEv), (0x04, .ib .addALIb), (0x05, .iz .addEAXIz),
    (0x08, .eg .orEbGb), (0x09, .eg .orEvGv), (0x0A, .eg .orGbEb),
    (0x0B, .eg .orGvEv), (0x0C, .ib .orALIb), (0x0D, .iz .orEAXIz),
    (0x10, .eg .adcEbGb), (0x11, .eg .adcEvGv), (0x12, .eg .adcGbEb),
    (0x13, .eg .adcGvEv), (0x14, .ib .adcALIb), (0x15, .iz .adcEAXIz),
    (0x18, .eg .sbbEbGb), (0x19, .eg .sbbEvGv), (0x1A, .eg .sbbGbEb),
    (0x1B, .eg .sbbGvEv), (0x1C, .ib .sbbALIb), (0x1D, .iz .sbbEAXIz),
    (0x20, .eg .andEbGb), (0x21, .eg .andEvGv), (0x22, .eg .andGbEb),
    (0x23, .eg .andGvEv), (0x24, .ib .andALIb), (0x25, .iz .andEAXIz),
    (0x28, .eg .subEbGb), (0x29, .eg .subEvGv), (0x2A, .eg .subGbEb),
    (0x2B, .eg .subGvEv), (0x2C, .ib .subALIb), (0x2D, .iz .subEAXIz),
    (0x30, .eg .xorEbGb), (0x31, .eg .xorEvGv), (0x32, .eg .xorGbEb),
    (0x33, .eg .xorGvEv), (0x34, .ib .xorALIb), (0x35, .iz .xorEAXIz),
    (0x38, .eg .cmpEbGb), (0x39, .eg .cmpEvGv), (0x3A, .eg .cmpGbEb),
    (0x3B, .eg .cmpGvEv), (0x3C, .ib .cmpALIb), (0x3D, .iz .cmpEAXIz) ]

/-- `40+r` INC and `48+r` DEC (30_encoding R356). -/
def mapIncDec : List (Nat × Row) :=
  [ (0x40, .plain (.incZv · .ax)), (0x41, .plain (.incZv · .cx)), (0x42, .plain (.incZv · .dx)),
    (0x43, .plain (.incZv · .bx)), (0x44, .plain (.incZv · .sp)), (0x45, .plain (.incZv · .bp)),
    (0x46, .plain (.incZv · .si)), (0x47, .plain (.incZv · .di)), (0x48, .plain (.decZv · .ax)),
    (0x49, .plain (.decZv · .cx)), (0x4A, .plain (.decZv · .dx)), (0x4B, .plain (.decZv · .bx)),
    (0x4C, .plain (.decZv · .sp)), (0x4D, .plain (.decZv · .bp)), (0x4E, .plain (.decZv · .si)),
    (0x4F, .plain (.decZv · .di)) ]

/-- `80`: Eb, Ib (30_encoding R357). -/
def group80 : List GroupRow :=
  [ .eIb .addEbIb, .eIb .orEbIb, .eIb .adcEbIb, .eIb .sbbEbIb,
    .eIb .andEbIb, .eIb .subEbIb, .eIb .xorEbIb, .eIb .cmpEbIb ]

/-- `81`: Ev, Iz (30_encoding R357). -/
def group81 : List GroupRow :=
  [ .eIz .addEvIz, .eIz .orEvIz, .eIz .adcEvIz, .eIz .sbbEvIz,
    .eIz .andEvIz, .eIz .subEvIz, .eIz .xorEvIz, .eIz .cmpEvIz ]

/-- `82`: alias of `80` (30_encoding R357, R371). -/
def group82 : List GroupRow :=
  [ .aliasEIb .addEbIb82, .aliasEIb .orEbIb82, .aliasEIb .adcEbIb82, .aliasEIb .sbbEbIb82,
    .aliasEIb .andEbIb82, .aliasEIb .subEbIb82, .aliasEIb .xorEbIb82, .aliasEIb .cmpEbIb82 ]

/-- `83`: Ev, Ib sign-extended (30_encoding R357). -/
def group83 : List GroupRow :=
  [ .eIb .addEvIb, .eIb .orEvIb, .eIb .adcEvIb, .eIb .sbbEvIb,
    .eIb .andEvIb, .eIb .subEvIb, .eIb .xorEvIb, .eIb .cmpEvIb ]

/-- `C0`: shifts and rotates Eb, Ib (30_encoding R359, R371). -/
def groupC0 : List GroupRow :=
  [ .eIb .rolEbIb, .eIb .rorEbIb, .eIb .rclEbIb, .eIb .rcrEbIb,
    .eIb .shlEbIb, .eIb .shrEbIb, .aliasEIb .shlEbIbSlash6, .eIb .sarEbIb ]

/-- `C1`: shifts and rotates Ev, Ib (30_encoding R359, R371). -/
def groupC1 : List GroupRow :=
  [ .eIb .rolEvIb, .eIb .rorEvIb, .eIb .rclEvIb, .eIb .rcrEvIb,
    .eIb .shlEvIb, .eIb .shrEvIb, .aliasEIb .shlEvIbSlash6, .eIb .sarEvIb ]

/-- `D0`: shifts and rotates Eb, 1 (30_encoding R359, R371). -/
def groupD0 : List GroupRow :=
  [ .e .rolEb1, .e .rorEb1, .e .rclEb1, .e .rcrEb1,
    .e .shlEb1, .e .shrEb1, .aliasE .shlEb1Slash6, .e .sarEb1 ]

/-- `D1`: shifts and rotates Ev, 1 (30_encoding R359, R371). -/
def groupD1 : List GroupRow :=
  [ .e .rolEv1, .e .rorEv1, .e .rclEv1, .e .rcrEv1,
    .e .shlEv1, .e .shrEv1, .aliasE .shlEv1Slash6, .e .sarEv1 ]

/-- `D2`: shifts and rotates Eb, CL (30_encoding R359, R371). -/
def groupD2 : List GroupRow :=
  [ .e .rolEbCL, .e .rorEbCL, .e .rclEbCL, .e .rcrEbCL,
    .e .shlEbCL, .e .shrEbCL, .aliasE .shlEbCLSlash6, .e .sarEbCL ]

/-- `D3`: shifts and rotates Ev, CL (30_encoding R359, R371). -/
def groupD3 : List GroupRow :=
  [ .e .rolEvCL, .e .rorEvCL, .e .rclEvCL, .e .rcrEvCL,
    .e .shlEvCL, .e .shrEvCL, .aliasE .shlEvCLSlash6, .e .sarEvCL ]

/-- `F6`: group 3 (30_encoding R360, R371). -/
def groupF6 : List GroupRow :=
  [ .eIb .testEbIb, .aliasEIb .testEbIbSlash1, .e .notEb, .e .negEb,
    .e .mulEb, .e .imulEb, .e .divEb, .e .idivEb ]

/-- `F7`: group 3 (30_encoding R360, R371). -/
def groupF7 : List GroupRow :=
  [ .eIz .testEvIz, .aliasEIz .testEvIzSlash1, .e .notEv, .e .negEv,
    .e .mulEv, .e .imulEv, .e .divEv, .e .idivEv ]

/-- `FE`: group 4 (30_encoding R362). -/
def groupFE : List GroupRow :=
  [ .e .incEb, .e .decEb, .undefined .undefinedFE2, .undefined .undefinedFE3,
    .undefined .undefinedFE4, .undefined .undefinedFE5, .undefined .undefinedFE6, .undefined .undefinedFE7 ]

/-- `FF`: group 5; `/2`-`/6` are outside the block (30_encoding R361, R362). -/
def groupFF : List GroupRow :=
  [ .e .incEv, .e .decEv, .notInBlock, .notInBlock,
    .notInBlock, .notInBlock, .notInBlock, .undefined .undefinedFF7 ]

/-- The groups by opcode (30_encoding R357, R359, R360, R362). -/
def mapGroups : List (Nat × Row) :=
  [ (0x80, .group group80), (0x81, .group group81), (0x82, .group group82),
    (0x83, .group group83), (0xC0, .group groupC0), (0xC1, .group groupC1),
    (0xD0, .group groupD0), (0xD1, .group groupD1), (0xD2, .group groupD2),
    (0xD3, .group groupD3), (0xF6, .group groupF6), (0xF7, .group groupF7),
    (0xFE, .group groupFE), (0xFF, .group groupFF) ]

/-- The short conditional jumps `70+cc` (30_encoding R364). -/
def mapJccShort : List (Nat × Row) :=
  [ (0x70, .ib .joJb), (0x71, .ib .jnoJb), (0x72, .ib .jbJb), (0x73, .ib .jaeJb),
    (0x74, .ib .jeJb), (0x75, .ib .jneJb), (0x76, .ib .jbeJb), (0x77, .ib .jaJb),
    (0x78, .ib .jsJb), (0x79, .ib .jnsJb), (0x7A, .ib .jpJb), (0x7B, .ib .jnpJb),
    (0x7C, .ib .jlJb), (0x7D, .ib .jgeJb), (0x7E, .ib .jleJb), (0x7F, .ib .jgJb) ]

/-- TEST, IMUL with immediate, flag, port and interrupt rows (30_encoding R358, R363, R367, R368, R369). -/
def mapOthers : List (Nat × Row) :=
  [ (0x84, .eg .testEbGb), (0x85, .eg .testEvGv), (0xA8, .ib .testALIb),
    (0xA9, .iz .testEAXIz), (0x69, .egIz .imulGvEvIz), (0x6B, .egIb .imulGvEvIb),
    (0xF5, .plain .cmc), (0xF8, .plain .clc), (0xF9, .plain .stc),
    (0x9E, .plain .sahf), (0x9F, .plain .lahf), (0xE4, .ib .inALIb),
    (0xE5, .ib .inEAXIb), (0xEC, .plain .inALDX), (0xED, .plain .inEAXDX),
    (0xE6, .ib .outIbAL), (0xE7, .ib .outIbEAX), (0xEE, .plain .outDXAL),
    (0xEF, .plain .outDXEAX), (0xCC, .plain .int3), (0xCD, .ib .intIb),
    (0xCE, .plain .into) ]

/-- The one-byte map (30_encoding R355-R369); a byte with no entry is outside the block (R361). -/
def map1 : List (Nat × Row) :=
  mapBinary ++ mapIncDec ++ mapGroups ++ mapJccShort ++ mapOthers

/-- The near conditional jumps `0F 80+cc` (30_encoding R364). -/
def mapJccNear : List (Nat × Row) :=
  [ (0x80, .iz .joJz), (0x81, .iz .jnoJz), (0x82, .iz .jbJz), (0x83, .iz .jaeJz),
    (0x84, .iz .jeJz), (0x85, .iz .jneJz), (0x86, .iz .jbeJz), (0x87, .iz .jaJz),
    (0x88, .iz .jsJz), (0x89, .iz .jnsJz), (0x8A, .iz .jpJz), (0x8B, .iz .jnpJz),
    (0x8C, .iz .jlJz), (0x8D, .iz .jgeJz), (0x8E, .iz .jleJz), (0x8F, .iz .jgJz) ]

/-- SETcc `0F 90+cc` (30_encoding R365). -/
def mapSetcc : List (Nat × Row) :=
  [ (0x90, .eg .setoEb), (0x91, .eg .setnoEb), (0x92, .eg .setbEb), (0x93, .eg .setaeEb),
    (0x94, .eg .seteEb), (0x95, .eg .setneEb), (0x96, .eg .setbeEb), (0x97, .eg .setaEb),
    (0x98, .eg .setsEb), (0x99, .eg .setnsEb), (0x9A, .eg .setpEb), (0x9B, .eg .setnpEb),
    (0x9C, .eg .setlEb), (0x9D, .eg .setgeEb), (0x9E, .eg .setleEb), (0x9F, .eg .setgEb) ]

/-- The two-byte map after `0F` (30_encoding R370). -/
def map2 : List (Nat × Row) :=
  mapJccNear ++ mapSetcc ++ [(0xAF, .eg .imulGvEv)]

/-- The row of an opcode byte in a map; none is outside the block (30_encoding R361). -/
def rowOf (map : List (Nat × Row)) (b : Byte) : Option Row := map.lookup b.toNat

/-! ### Decoding a row -/

/-- The operands of a group row after its ModRM byte (30_encoding R350, R371, R372; 60_exceptions R1102). -/
def fetchGroupRow (policy : AliasPolicy) (opSize addrSize : Size) (modrm : Byte) (row : GroupRow)
    (bs : List Byte) : Parse (Head → Instr) :=
  let bits : ModRmBits := { mod := modField modrm, rm := rmField modrm }
  let operand := fetchEOperand false addrSize modrm bs
  let withIb := operand.bind fun e bs => (fetchIb bs).map fun v => (e, v)
  let withIz := operand.bind fun e bs => (fetchIz opSize bs).map fun v => (e, v)
  match row with
  | .e mk => operand.map fun e h => mk h e
  | .eIb mk => withIb.map fun x h => mk h x.1 x.2
  | .eIz mk => withIz.map fun x h => mk h x.1 x.2
  | .aliasE mk =>
    match policy with
    | .twin => operand.map fun e h => mk h (.twin e)
    | .undefinedOpcode => .done (fun h => mk h (.undefinedOpcode bits)) bs
  | .aliasEIb mk =>
    match policy with
    | .twin => withIb.map fun x h => mk h (.twin x)
    | .undefinedOpcode => .done (fun h => mk h (.undefinedOpcode bits)) bs
  | .aliasEIz mk =>
    match policy with
    | .twin => withIz.map fun x h => mk h (.twin x)
    | .undefinedOpcode => .done (fun h => mk h (.undefinedOpcode bits)) bs
  | .undefined mk => .done (fun h => mk h bits) bs
  | .notInBlock => .stop (.refuse .notInBlock) bs

/-- The operands of a row, in stream order: ModRM, SIB, displacement, immediate (30_encoding R300, R301, R350). -/
def fetchRow (policy : AliasPolicy) (opSize addrSize : Size) (row : Row) (bs : List Byte) :
    Parse (Head → Instr) :=
  match row with
  | .eg mk =>
    (fetch8 bs).bind fun modrm bs =>
      (fetchEOperand false addrSize modrm bs).map fun e h => mk h (Reg.ofBits (regField modrm)) e
  | .egIb mk =>
    (fetch8 bs).bind fun modrm bs =>
      (fetchEOperand false addrSize modrm bs).bind fun e bs =>
        (fetchIb bs).map fun v h => mk h (Reg.ofBits (regField modrm)) e v
  | .egIz mk =>
    (fetch8 bs).bind fun modrm bs =>
      (fetchEOperand false addrSize modrm bs).bind fun e bs =>
        (fetchIz opSize bs).map fun v h => mk h (Reg.ofBits (regField modrm)) e v
  | .ib mk => (fetchIb bs).map fun v h => mk h v
  | .iz mk => (fetchIz opSize bs).map fun v h => mk h v
  | .plain mk => .done mk bs
  | .group rows =>
    (fetch8 bs).bind fun modrm bs =>
      fetchGroupRow policy opSize addrSize modrm (rows.getD (regField modrm).toNat .notInBlock) bs

/-- A row that may be absent: an absent row is outside the block (30_encoding R361). -/
def fetchRow? (policy : AliasPolicy) (opSize addrSize : Size) (row : Option Row) (bs : List Byte) :
    Parse (Head → Instr) :=
  match row with
  | none => .stop (.refuse .notInBlock) bs
  | some row => fetchRow policy opSize addrSize row bs

/-- The opcode and the operands after the prefixes (30_encoding R308, R350). -/
def fetchBody (policy : AliasPolicy) (opSize addrSize : Size) (bs : List Byte) : Parse (Head → Instr) :=
  (fetch8 bs).bind fun b0 bs =>
    if b0 = 0x0F#8 then
      (fetch8 bs).bind fun b1 bs => fetchRow? policy opSize addrSize (rowOf map2 b1) bs
    else fetchRow? policy opSize addrSize (rowOf map1 b0) bs

/-- What a decode ends in: the decoded instruction, a refusal or a decode fault. `#UD` is not here: the rows
that raise it decode to instructions whose meaning raises it. -/
inductive DecodeOutcome where
  | instr (i : Instr)
  | refuse (r : RefuseReason)
  | fatal (r : DecodeFaultReason)
deriving DecidableEq, Repr

/-- A decode's outcome and the number of bytes it read. -/
structure Decoded where
  outcome : DecodeOutcome
  len : Nat
deriving DecidableEq, Repr

/-- The outcome of a decode that stopped. -/
def DecodeStop.outcome : DecodeStop → DecodeOutcome
  | .refuse r => .refuse r
  | .fatal r => .fatal r

/-- Decode the window `w`, which is at most 15 bytes. -/
def decodeWindow (m : Mode) (w : List Byte) : Decoded :=
  match scanPrefixes none w with
  | .stop x rest => { outcome := x.outcome, len := w.length - rest.length }
  | .done ps bs =>
    match fetchBody m.aliasPolicy (m.opSize ps) (m.addrSize ps) bs with
    | .stop x rest => { outcome := x.outcome, len := w.length - rest.length }
    | .done mk rest =>
      let h : Head :=
        { prefixes := ps
          opSize := m.opSize ps
          addrSize := m.addrSize ps
          len := w.length - rest.length }
      { outcome := .instr (mk h), len := w.length - rest.length }

/-- `decode` (30_encoding R350): the instruction at the head of any bytes, or the reason there is none. No more
than 15 bytes are read (R303). -/
def decode (m : Mode) (bytes : List Byte) : Decoded := decodeWindow m (bytes.take maxLength)

/-! ### The encoder -/

/-- The opcode bytes of an instruction and, for a group row, its `reg` field (30_encoding R355-R370). -/
structure Opcode where
  bytes : List Byte
  digit : BitVec 3
deriving DecidableEq, Repr

/-- The opcode of every row (30_encoding R355-R370). -/
def Instr.opcode : Instr → Opcode
  | .addEbGb _ _ _ => ⟨[0x00#8], 0#3⟩
  | .addEvGv _ _ _ => ⟨[0x01#8], 0#3⟩
  | .addGbEb _ _ _ => ⟨[0x02#8], 0#3⟩
  | .addGvEv _ _ _ => ⟨[0x03#8], 0#3⟩
  | .addALIb _ _ => ⟨[0x04#8], 0#3⟩
  | .addEAXIz _ _ => ⟨[0x05#8], 0#3⟩
  | .orEbGb _ _ _ => ⟨[0x08#8], 0#3⟩
  | .orEvGv _ _ _ => ⟨[0x09#8], 0#3⟩
  | .orGbEb _ _ _ => ⟨[0x0A#8], 0#3⟩
  | .orGvEv _ _ _ => ⟨[0x0B#8], 0#3⟩
  | .orALIb _ _ => ⟨[0x0C#8], 0#3⟩
  | .orEAXIz _ _ => ⟨[0x0D#8], 0#3⟩
  | .adcEbGb _ _ _ => ⟨[0x10#8], 0#3⟩
  | .adcEvGv _ _ _ => ⟨[0x11#8], 0#3⟩
  | .adcGbEb _ _ _ => ⟨[0x12#8], 0#3⟩
  | .adcGvEv _ _ _ => ⟨[0x13#8], 0#3⟩
  | .adcALIb _ _ => ⟨[0x14#8], 0#3⟩
  | .adcEAXIz _ _ => ⟨[0x15#8], 0#3⟩
  | .sbbEbGb _ _ _ => ⟨[0x18#8], 0#3⟩
  | .sbbEvGv _ _ _ => ⟨[0x19#8], 0#3⟩
  | .sbbGbEb _ _ _ => ⟨[0x1A#8], 0#3⟩
  | .sbbGvEv _ _ _ => ⟨[0x1B#8], 0#3⟩
  | .sbbALIb _ _ => ⟨[0x1C#8], 0#3⟩
  | .sbbEAXIz _ _ => ⟨[0x1D#8], 0#3⟩
  | .andEbGb _ _ _ => ⟨[0x20#8], 0#3⟩
  | .andEvGv _ _ _ => ⟨[0x21#8], 0#3⟩
  | .andGbEb _ _ _ => ⟨[0x22#8], 0#3⟩
  | .andGvEv _ _ _ => ⟨[0x23#8], 0#3⟩
  | .andALIb _ _ => ⟨[0x24#8], 0#3⟩
  | .andEAXIz _ _ => ⟨[0x25#8], 0#3⟩
  | .subEbGb _ _ _ => ⟨[0x28#8], 0#3⟩
  | .subEvGv _ _ _ => ⟨[0x29#8], 0#3⟩
  | .subGbEb _ _ _ => ⟨[0x2A#8], 0#3⟩
  | .subGvEv _ _ _ => ⟨[0x2B#8], 0#3⟩
  | .subALIb _ _ => ⟨[0x2C#8], 0#3⟩
  | .subEAXIz _ _ => ⟨[0x2D#8], 0#3⟩
  | .xorEbGb _ _ _ => ⟨[0x30#8], 0#3⟩
  | .xorEvGv _ _ _ => ⟨[0x31#8], 0#3⟩
  | .xorGbEb _ _ _ => ⟨[0x32#8], 0#3⟩
  | .xorGvEv _ _ _ => ⟨[0x33#8], 0#3⟩
  | .xorALIb _ _ => ⟨[0x34#8], 0#3⟩
  | .xorEAXIz _ _ => ⟨[0x35#8], 0#3⟩
  | .cmpEbGb _ _ _ => ⟨[0x38#8], 0#3⟩
  | .cmpEvGv _ _ _ => ⟨[0x39#8], 0#3⟩
  | .cmpGbEb _ _ _ => ⟨[0x3A#8], 0#3⟩
  | .cmpGvEv _ _ _ => ⟨[0x3B#8], 0#3⟩
  | .cmpALIb _ _ => ⟨[0x3C#8], 0#3⟩
  | .cmpEAXIz _ _ => ⟨[0x3D#8], 0#3⟩
  | .incZv _ r => ⟨[(0x40#8 : Byte) + r.toBits.setWidth 8], 0#3⟩
  | .decZv _ r => ⟨[(0x48#8 : Byte) + r.toBits.setWidth 8], 0#3⟩
  | .addEbIb _ _ _ => ⟨[0x80#8], 0#3⟩
  | .orEbIb _ _ _ => ⟨[0x80#8], 1#3⟩
  | .adcEbIb _ _ _ => ⟨[0x80#8], 2#3⟩
  | .sbbEbIb _ _ _ => ⟨[0x80#8], 3#3⟩
  | .andEbIb _ _ _ => ⟨[0x80#8], 4#3⟩
  | .subEbIb _ _ _ => ⟨[0x80#8], 5#3⟩
  | .xorEbIb _ _ _ => ⟨[0x80#8], 6#3⟩
  | .cmpEbIb _ _ _ => ⟨[0x80#8], 7#3⟩
  | .addEvIz _ _ _ => ⟨[0x81#8], 0#3⟩
  | .orEvIz _ _ _ => ⟨[0x81#8], 1#3⟩
  | .adcEvIz _ _ _ => ⟨[0x81#8], 2#3⟩
  | .sbbEvIz _ _ _ => ⟨[0x81#8], 3#3⟩
  | .andEvIz _ _ _ => ⟨[0x81#8], 4#3⟩
  | .subEvIz _ _ _ => ⟨[0x81#8], 5#3⟩
  | .xorEvIz _ _ _ => ⟨[0x81#8], 6#3⟩
  | .cmpEvIz _ _ _ => ⟨[0x81#8], 7#3⟩
  | .addEvIb _ _ _ => ⟨[0x83#8], 0#3⟩
  | .orEvIb _ _ _ => ⟨[0x83#8], 1#3⟩
  | .adcEvIb _ _ _ => ⟨[0x83#8], 2#3⟩
  | .sbbEvIb _ _ _ => ⟨[0x83#8], 3#3⟩
  | .andEvIb _ _ _ => ⟨[0x83#8], 4#3⟩
  | .subEvIb _ _ _ => ⟨[0x83#8], 5#3⟩
  | .xorEvIb _ _ _ => ⟨[0x83#8], 6#3⟩
  | .cmpEvIb _ _ _ => ⟨[0x83#8], 7#3⟩
  | .addEbIb82 _ _ => ⟨[0x82#8], 0#3⟩
  | .orEbIb82 _ _ => ⟨[0x82#8], 1#3⟩
  | .adcEbIb82 _ _ => ⟨[0x82#8], 2#3⟩
  | .sbbEbIb82 _ _ => ⟨[0x82#8], 3#3⟩
  | .andEbIb82 _ _ => ⟨[0x82#8], 4#3⟩
  | .subEbIb82 _ _ => ⟨[0x82#8], 5#3⟩
  | .xorEbIb82 _ _ => ⟨[0x82#8], 6#3⟩
  | .cmpEbIb82 _ _ => ⟨[0x82#8], 7#3⟩
  | .testEbGb _ _ _ => ⟨[0x84#8], 0#3⟩
  | .testEvGv _ _ _ => ⟨[0x85#8], 0#3⟩
  | .testALIb _ _ => ⟨[0xA8#8], 0#3⟩
  | .testEAXIz _ _ => ⟨[0xA9#8], 0#3⟩
  | .testEbIb _ _ _ => ⟨[0xF6#8], 0#3⟩
  | .testEbIbSlash1 _ _ => ⟨[0xF6#8], 1#3⟩
  | .notEb _ _ => ⟨[0xF6#8], 2#3⟩
  | .negEb _ _ => ⟨[0xF6#8], 3#3⟩
  | .mulEb _ _ => ⟨[0xF6#8], 4#3⟩
  | .imulEb _ _ => ⟨[0xF6#8], 5#3⟩
  | .divEb _ _ => ⟨[0xF6#8], 6#3⟩
  | .idivEb _ _ => ⟨[0xF6#8], 7#3⟩
  | .testEvIz _ _ _ => ⟨[0xF7#8], 0#3⟩
  | .testEvIzSlash1 _ _ => ⟨[0xF7#8], 1#3⟩
  | .notEv _ _ => ⟨[0xF7#8], 2#3⟩
  | .negEv _ _ => ⟨[0xF7#8], 3#3⟩
  | .mulEv _ _ => ⟨[0xF7#8], 4#3⟩
  | .imulEv _ _ => ⟨[0xF7#8], 5#3⟩
  | .divEv _ _ => ⟨[0xF7#8], 6#3⟩
  | .idivEv _ _ => ⟨[0xF7#8], 7#3⟩
  | .incEb _ _ => ⟨[0xFE#8], 0#3⟩
  | .decEb _ _ => ⟨[0xFE#8], 1#3⟩
  | .incEv _ _ => ⟨[0xFF#8], 0#3⟩
  | .decEv _ _ => ⟨[0xFF#8], 1#3⟩
  | .undefinedFE2 _ _ => ⟨[0xFE#8], 2#3⟩
  | .undefinedFE3 _ _ => ⟨[0xFE#8], 3#3⟩
  | .undefinedFE4 _ _ => ⟨[0xFE#8], 4#3⟩
  | .undefinedFE5 _ _ => ⟨[0xFE#8], 5#3⟩
  | .undefinedFE6 _ _ => ⟨[0xFE#8], 6#3⟩
  | .undefinedFE7 _ _ => ⟨[0xFE#8], 7#3⟩
  | .undefinedFF7 _ _ => ⟨[0xFF#8], 7#3⟩
  | .rolEbIb _ _ _ => ⟨[0xC0#8], 0#3⟩
  | .rorEbIb _ _ _ => ⟨[0xC0#8], 1#3⟩
  | .rclEbIb _ _ _ => ⟨[0xC0#8], 2#3⟩
  | .rcrEbIb _ _ _ => ⟨[0xC0#8], 3#3⟩
  | .shlEbIb _ _ _ => ⟨[0xC0#8], 4#3⟩
  | .shrEbIb _ _ _ => ⟨[0xC0#8], 5#3⟩
  | .shlEbIbSlash6 _ _ => ⟨[0xC0#8], 6#3⟩
  | .sarEbIb _ _ _ => ⟨[0xC0#8], 7#3⟩
  | .rolEvIb _ _ _ => ⟨[0xC1#8], 0#3⟩
  | .rorEvIb _ _ _ => ⟨[0xC1#8], 1#3⟩
  | .rclEvIb _ _ _ => ⟨[0xC1#8], 2#3⟩
  | .rcrEvIb _ _ _ => ⟨[0xC1#8], 3#3⟩
  | .shlEvIb _ _ _ => ⟨[0xC1#8], 4#3⟩
  | .shrEvIb _ _ _ => ⟨[0xC1#8], 5#3⟩
  | .shlEvIbSlash6 _ _ => ⟨[0xC1#8], 6#3⟩
  | .sarEvIb _ _ _ => ⟨[0xC1#8], 7#3⟩
  | .rolEb1 _ _ => ⟨[0xD0#8], 0#3⟩
  | .rorEb1 _ _ => ⟨[0xD0#8], 1#3⟩
  | .rclEb1 _ _ => ⟨[0xD0#8], 2#3⟩
  | .rcrEb1 _ _ => ⟨[0xD0#8], 3#3⟩
  | .shlEb1 _ _ => ⟨[0xD0#8], 4#3⟩
  | .shrEb1 _ _ => ⟨[0xD0#8], 5#3⟩
  | .shlEb1Slash6 _ _ => ⟨[0xD0#8], 6#3⟩
  | .sarEb1 _ _ => ⟨[0xD0#8], 7#3⟩
  | .rolEv1 _ _ => ⟨[0xD1#8], 0#3⟩
  | .rorEv1 _ _ => ⟨[0xD1#8], 1#3⟩
  | .rclEv1 _ _ => ⟨[0xD1#8], 2#3⟩
  | .rcrEv1 _ _ => ⟨[0xD1#8], 3#3⟩
  | .shlEv1 _ _ => ⟨[0xD1#8], 4#3⟩
  | .shrEv1 _ _ => ⟨[0xD1#8], 5#3⟩
  | .shlEv1Slash6 _ _ => ⟨[0xD1#8], 6#3⟩
  | .sarEv1 _ _ => ⟨[0xD1#8], 7#3⟩
  | .rolEbCL _ _ => ⟨[0xD2#8], 0#3⟩
  | .rorEbCL _ _ => ⟨[0xD2#8], 1#3⟩
  | .rclEbCL _ _ => ⟨[0xD2#8], 2#3⟩
  | .rcrEbCL _ _ => ⟨[0xD2#8], 3#3⟩
  | .shlEbCL _ _ => ⟨[0xD2#8], 4#3⟩
  | .shrEbCL _ _ => ⟨[0xD2#8], 5#3⟩
  | .shlEbCLSlash6 _ _ => ⟨[0xD2#8], 6#3⟩
  | .sarEbCL _ _ => ⟨[0xD2#8], 7#3⟩
  | .rolEvCL _ _ => ⟨[0xD3#8], 0#3⟩
  | .rorEvCL _ _ => ⟨[0xD3#8], 1#3⟩
  | .rclEvCL _ _ => ⟨[0xD3#8], 2#3⟩
  | .rcrEvCL _ _ => ⟨[0xD3#8], 3#3⟩
  | .shlEvCL _ _ => ⟨[0xD3#8], 4#3⟩
  | .shrEvCL _ _ => ⟨[0xD3#8], 5#3⟩
  | .shlEvCLSlash6 _ _ => ⟨[0xD3#8], 6#3⟩
  | .sarEvCL _ _ => ⟨[0xD3#8], 7#3⟩
  | .imulGvEvIz _ _ _ _ => ⟨[0x69#8], 0#3⟩
  | .imulGvEvIb _ _ _ _ => ⟨[0x6B#8], 0#3⟩
  | .imulGvEv _ _ _ => ⟨[0x0F#8, 0xAF#8], 0#3⟩
  | .joJb _ _ => ⟨[0x70#8], 0#3⟩
  | .jnoJb _ _ => ⟨[0x71#8], 0#3⟩
  | .jbJb _ _ => ⟨[0x72#8], 0#3⟩
  | .jaeJb _ _ => ⟨[0x73#8], 0#3⟩
  | .jeJb _ _ => ⟨[0x74#8], 0#3⟩
  | .jneJb _ _ => ⟨[0x75#8], 0#3⟩
  | .jbeJb _ _ => ⟨[0x76#8], 0#3⟩
  | .jaJb _ _ => ⟨[0x77#8], 0#3⟩
  | .jsJb _ _ => ⟨[0x78#8], 0#3⟩
  | .jnsJb _ _ => ⟨[0x79#8], 0#3⟩
  | .jpJb _ _ => ⟨[0x7A#8], 0#3⟩
  | .jnpJb _ _ => ⟨[0x7B#8], 0#3⟩
  | .jlJb _ _ => ⟨[0x7C#8], 0#3⟩
  | .jgeJb _ _ => ⟨[0x7D#8], 0#3⟩
  | .jleJb _ _ => ⟨[0x7E#8], 0#3⟩
  | .jgJb _ _ => ⟨[0x7F#8], 0#3⟩
  | .joJz _ _ => ⟨[0x0F#8, 0x80#8], 0#3⟩
  | .jnoJz _ _ => ⟨[0x0F#8, 0x81#8], 0#3⟩
  | .jbJz _ _ => ⟨[0x0F#8, 0x82#8], 0#3⟩
  | .jaeJz _ _ => ⟨[0x0F#8, 0x83#8], 0#3⟩
  | .jeJz _ _ => ⟨[0x0F#8, 0x84#8], 0#3⟩
  | .jneJz _ _ => ⟨[0x0F#8, 0x85#8], 0#3⟩
  | .jbeJz _ _ => ⟨[0x0F#8, 0x86#8], 0#3⟩
  | .jaJz _ _ => ⟨[0x0F#8, 0x87#8], 0#3⟩
  | .jsJz _ _ => ⟨[0x0F#8, 0x88#8], 0#3⟩
  | .jnsJz _ _ => ⟨[0x0F#8, 0x89#8], 0#3⟩
  | .jpJz _ _ => ⟨[0x0F#8, 0x8A#8], 0#3⟩
  | .jnpJz _ _ => ⟨[0x0F#8, 0x8B#8], 0#3⟩
  | .jlJz _ _ => ⟨[0x0F#8, 0x8C#8], 0#3⟩
  | .jgeJz _ _ => ⟨[0x0F#8, 0x8D#8], 0#3⟩
  | .jleJz _ _ => ⟨[0x0F#8, 0x8E#8], 0#3⟩
  | .jgJz _ _ => ⟨[0x0F#8, 0x8F#8], 0#3⟩
  | .setoEb _ _ _ => ⟨[0x0F#8, 0x90#8], 0#3⟩
  | .setnoEb _ _ _ => ⟨[0x0F#8, 0x91#8], 0#3⟩
  | .setbEb _ _ _ => ⟨[0x0F#8, 0x92#8], 0#3⟩
  | .setaeEb _ _ _ => ⟨[0x0F#8, 0x93#8], 0#3⟩
  | .seteEb _ _ _ => ⟨[0x0F#8, 0x94#8], 0#3⟩
  | .setneEb _ _ _ => ⟨[0x0F#8, 0x95#8], 0#3⟩
  | .setbeEb _ _ _ => ⟨[0x0F#8, 0x96#8], 0#3⟩
  | .setaEb _ _ _ => ⟨[0x0F#8, 0x97#8], 0#3⟩
  | .setsEb _ _ _ => ⟨[0x0F#8, 0x98#8], 0#3⟩
  | .setnsEb _ _ _ => ⟨[0x0F#8, 0x99#8], 0#3⟩
  | .setpEb _ _ _ => ⟨[0x0F#8, 0x9A#8], 0#3⟩
  | .setnpEb _ _ _ => ⟨[0x0F#8, 0x9B#8], 0#3⟩
  | .setlEb _ _ _ => ⟨[0x0F#8, 0x9C#8], 0#3⟩
  | .setgeEb _ _ _ => ⟨[0x0F#8, 0x9D#8], 0#3⟩
  | .setleEb _ _ _ => ⟨[0x0F#8, 0x9E#8], 0#3⟩
  | .setgEb _ _ _ => ⟨[0x0F#8, 0x9F#8], 0#3⟩
  | .clc _ => ⟨[0xF8#8], 0#3⟩
  | .stc _ => ⟨[0xF9#8], 0#3⟩
  | .cmc _ => ⟨[0xF5#8], 0#3⟩
  | .lahf _ => ⟨[0x9F#8], 0#3⟩
  | .sahf _ => ⟨[0x9E#8], 0#3⟩
  | .inALIb _ _ => ⟨[0xE4#8], 0#3⟩
  | .inEAXIb _ _ => ⟨[0xE5#8], 0#3⟩
  | .inALDX _ => ⟨[0xEC#8], 0#3⟩
  | .inEAXDX _ => ⟨[0xED#8], 0#3⟩
  | .outIbAL _ _ => ⟨[0xE6#8], 0#3⟩
  | .outIbEAX _ _ => ⟨[0xE7#8], 0#3⟩
  | .outDXAL _ => ⟨[0xEE#8], 0#3⟩
  | .outDXEAX _ => ⟨[0xEF#8], 0#3⟩
  | .int3 _ => ⟨[0xCC#8], 0#3⟩
  | .intIb _ _ => ⟨[0xCD#8], 0#3⟩
  | .into _ => ⟨[0xCE#8], 0#3⟩

/-- A ModRM byte from its fields (30_encoding R310); a SIB byte likewise (R321). -/
def modrmByte (mod : BitVec 2) (reg rm : BitVec 3) : Byte := (mod ++ reg ++ rm : BitVec (2 + 3 + 3))

/-- Two bytes, little-endian (20_memory R203). -/
def bytes16 (v : BitVec 16) : List Byte := [v.extractLsb' 0 8, v.extractLsb' 8 8]

/-- Four bytes, little-endian (20_memory R203). -/
def bytes32 (v : BitVec 32) : List Byte :=
  [v.extractLsb' 0 8, v.extractLsb' 8 8, v.extractLsb' 16 8, v.extractLsb' 24 8]

/-- `mod` of a 16-bit displacement (30_encoding R316). -/
def Disp16.mod : Disp16 → BitVec 2
  | .none => 0#2
  | .d8 _ => 1#2
  | .d16 _ => 2#2

/-- The bytes of a 16-bit form's displacement. -/
def Disp16.bytes : Disp16 → List Byte
  | .none => []
  | .d8 d => [d]
  | .d16 d => bytes16 d

/-- `mod` of a 32-bit form's displacement (30_encoding R320). -/
def Disp32.mod : Disp32 → BitVec 2
  | .none => 0#2
  | .d8 _ => 1#2
  | .d32 _ => 2#2

/-- The bytes of a 32-bit form's displacement. -/
def Disp32.bytes : Disp32 → List Byte
  | .none => []
  | .d8 d => [d]
  | .d32 d => bytes32 d

/-- The ModRM byte with its SIB byte and displacement (30_encoding R310-R323). -/
def encodeEOperand (reg : BitVec 3) : EOperand → List Byte
  | .reg r => [modrmByte 3#2 reg r.toBits]
  | .mem16 b d => modrmByte d.mod reg b.toBits :: d.bytes
  | .direct16 d => modrmByte 0#2 reg 6#3 :: bytes16 d
  | .mem32 b d => modrmByte d.mod reg b.toBits :: d.bytes
  | .direct32 d => modrmByte 0#2 reg 5#3 :: bytes32 d
  | .sib sc i b d => modrmByte d.mod reg 4#3 :: modrmByte sc i.toBits b.toBits :: d.bytes
  | .sibNoBase sc i d => modrmByte 0#2 reg 4#3 :: modrmByte sc i.toBits 5#3 :: bytes32 d

/-- The ModRM part of an instruction; `digit` is the `reg` field of a group row. -/
def encodeRm (digit : BitVec 3) : RmField → List Byte
  | .none => []
  | .operand none e => encodeEOperand digit e
  | .operand (some r) e => encodeEOperand r.toBits e
  | .bits m => [modrmByte m.mod digit m.rm]

/-- The immediate of an instruction (30_encoding R342). -/
def encodeImm (opSize : Size) : ImmField → List Byte
  | .none => []
  | .ib v => [v]
  | .iz v =>
    match opSize with
    | .b16 => bytes16 (v.setWidth 16)
    | .b32 => bytes32 v

/-- The bytes of an instruction: prefixes, opcode, ModRM, SIB, displacement, immediate (30_encoding R300). -/
def encode (i : Instr) : List Byte :=
  i.head.prefixes.map Prefix.toByte ++ i.opcode.bytes ++ encodeRm i.opcode.digit i.fields.rm
    ++ encodeImm i.head.opSize i.fields.imm

/-! ### The host's numbering -/

/-- The byte `j` of an instruction whose bits are `w`, the first byte the least significant. -/
def tableByte (w j : Nat) : Byte := BitVec.ofNat 8 (w >>> (8 * j))

/-- The 15 bytes of an instruction whose low `nbits` bits are `w` and whose bits above are 0. -/
def tableBytes (nbits w : Nat) : List Byte :=
  (List.range maxLength).map (tableByte (w % 2 ^ nbits))

/-- The instruction the decoder reads, at the launch parameters, from an instruction whose bits are `w`
(log 23). -/
def decodeTableWord (nbits w : Nat) : Option Instr :=
  match (decode Config.launch.mode (tableBytes nbits w)).outcome with
  | .instr i => some i
  | .refuse _ => none
  | .fatal _ => none

end Sys2Proof
end

