-- ==== Sys2Proof/Machine/State.lean ====
section
/-!
DEFINITION. The state of the machine as plain data, everything the spec gives it (10_state R155; 70_reset R1200),
the state at reset, and the reasons a step can stop.
-/
namespace Sys2Proof.Machine

/-- The eight general registers (10_state R100). -/
structure Gpr where
  eax : Dword
  ecx : Dword
  edx : Dword
  ebx : Dword
  esp : Dword
  ebp : Dword
  esi : Dword
  edi : Dword
deriving DecidableEq, Repr

/-- A segment register: selector and cached linear base (10_state R110). -/
structure SegReg where
  selector : BitVec 16
  base : Dword
deriving DecidableEq, Repr

/-- The six segment registers (10_state R110). -/
structure SegFile where
  es : SegReg
  cs : SegReg
  ss : SegReg
  ds : SegReg
  fs : SegReg
  gs : SegReg
deriving DecidableEq, Repr

/-- The six arithmetic flags (10_state R130, R131). -/
inductive Flag where
  | cf
  | pf
  | af
  | zf
  | sf
  | of
deriving DecidableEq, Repr

/-- The three flag groups (40_flag_engine R420). -/
inductive FlagGroup where
  | ca
  | o
  | szp
deriving DecidableEq, Repr

/-- The flag operation tags with their width and snapshots (40_flag_engine R410). A count is held in 5 bits, a
carry-in as a Boolean. -/
inductive Tag where
  | add (w : Width) (a b : BitVec w.bits)
  | adc (w : Width) (a b : BitVec w.bits) (c : Bool)
  | sub (w : Width) (a b : BitVec w.bits)
  | sbb (w : Width) (a b : BitVec w.bits) (c : Bool)
  | mul (w : Width) (a b : BitVec w.bits)
  | imul (w : Width) (a b : BitVec w.bits)
  | imul23 (w : Width) (a b : BitVec w.bits)
  | shl1 (w : Width) (a : BitVec w.bits)
  | shl (w : Width) (a : BitVec w.bits) (c : BitVec 5)
  | shr1 (w : Width) (a : BitVec w.bits)
  | shr (w : Width) (a : BitVec w.bits) (c : BitVec 5)
  | sar1 (w : Width) (a : BitVec w.bits)
  | sar (w : Width) (a : BitVec w.bits) (c : BitVec 5)
  | rol (w : Width) (a : BitVec w.bits) (c : BitVec 5)
  | ror (w : Width) (a : BitVec w.bits) (c : BitVec 5)
  | rcl (w : Width) (a : BitVec w.bits) (c : BitVec 5) (b : Bool)
  | rcr (w : Width) (a : BitVec w.bits) (c : BitVec 5) (b : Bool)
  | value (w : Width) (r : BitVec w.bits)
deriving DecidableEq, Repr

/-- The flag engine: a tag slot per group, an override slot per flag (40_flag_engine R421), and the count of
truth-table evaluations (10_state R137). -/
structure FlagEngine where
  tagCA : Option Tag
  tagO : Option Tag
  tagSZP : Option Tag
  ovrCF : Option Bool
  ovrPF : Option Bool
  ovrAF : Option Bool
  ovrZF : Option Bool
  ovrSF : Option Bool
  ovrOF : Option Bool
  evalCount : Nat
deriving DecidableEq, Repr

/-- Operand kinds (30_encoding R331); `fixed r` is the register view `r`, `one` the constant 1. -/
inductive ShapeKind where
  | register
  | memory
  | immediate
  | memoryOffset
  | fixed (r : Reg)
  | one
deriving DecidableEq, Repr

/-- `valueSize`, in bytes (30_encoding R330). -/
inductive ValueSize where
  | s1
  | s2
  | s4
  | s6
  | s8
  | s10
deriving DecidableEq, Repr

/-- `accessMode` (30_encoding R332). -/
inductive AccessMode where
  | readValue
  | readAddress
deriving DecidableEq, Repr

/-- An operand shape, the key of the accessor cache (30_encoding R330). -/
structure Shape where
  kind : ShapeKind
  valueSize : ValueSize
  addressingWidth : Size
  accessMode : AccessMode
  signed : Bool
  floatingPoint : Bool
  memoryOnly : Bool
deriving DecidableEq, Repr

/-- What is handed to the surrounding machine (60_exceptions R1120); a vector is 8 bits (R1103). -/
inductive Event where
  | fault (vector : BitVec 8)
  | softInt (vector : BitVec 8)
  | external (vector : BitVec 8)
deriving DecidableEq, Repr

/-- The run status (70_reset R1205). -/
inductive RunStatus where
  | running
  | finished
  | trapped (e : Event)
  | faulted (e : Event)
  | refused (r : RefuseReason)
  | fatal (r : DecodeFaultReason)
deriving DecidableEq, Repr

/-- One call of the memory interface or of the port interface (20_memory R201, R230), its value zero-extended. -/
inductive BusCall where
  | memRead (lin : Dword) (w : Width) (v : Dword)
  | memWrite (lin : Dword) (w : Width) (v : Dword)
  | portRead (port : BitVec 16) (w : Width) (v : Dword)
  | portWrite (port : BitVec 16) (w : Width) (v : Dword)
deriving DecidableEq, Repr

/-- Memory: the bytes that differ from what an unlisted address reads as, by strictly rising address. -/
abbrev Memory := List Host.Cell

/-- The state (10_state R155; 70_reset R1200). -/
structure State where
  /-- The general registers (10_state R100). -/
  gpr : Gpr
  /-- The segment registers (10_state R110). -/
  seg : SegFile
  /-- The instruction pointer (10_state R120). -/
  eip : Dword
  /-- The six arithmetic flags, as the lazy engine holds them (40_flag_engine R421), and `evalCount`. -/
  flags : FlagEngine
  /-- Every FLAGS bit the block does not hold (10_state R133). -/
  flagsOther : Dword
  /-- The shapes with a cached accessor, in the order of their first request (30_encoding R336). -/
  accessorCache : List Shape
  /-- The run status (70_reset R1205). -/
  status : RunStatus
  /-- Linear memory (20_memory R200). -/
  mem : Memory
  /-- The launch parameters that stay constant (70_reset R1200). -/
  params : Params
  /-- The inputs `pending` of the boundaries to come, the next one first; past the end none is offered
  (60_exceptions R1130; log 16). -/
  pending : List (Option (BitVec 8))
  /-- The model's own: how many free values have been taken (log 13). -/
  draws : Nat
  /-- The model's own: every interface call made, the newest first (log 14). -/
  busLog : List BusCall
deriving DecidableEq, Repr

/-- Why a step is no step at all. -/
inductive Fault where
  /-- Raised by `step` when the run status is not `Running`: the run is over and there is no step
  (70_reset R1204). SAFE: the spec gives such a state no step. -/
  | runOver
deriving DecidableEq, Repr

/-- Why an instruction has no meaning in the model. -/
inductive Refusal where
  /-- Raised by an arm of `exec` whose instruction has no meaning yet; no arm does. SAFE: the machine stops. -/
  | notModelled (mnemonic : String)
deriving DecidableEq, Repr

/-- General registers at reset (DESIGN CHOICE, log 1). -/
def Gpr.reset : Gpr :=
  { eax := 0, ecx := 0, edx := 0, ebx := 0, esp := 0, ebp := 0, esi := 0, edi := 0 }

/-- A segment register at reset (DESIGN CHOICE, log 2). -/
def SegReg.reset : SegReg := { selector := 0, base := 0 }

/-- The segment registers at reset. -/
def SegFile.reset : SegFile :=
  { es := .reset, cs := .reset, ss := .reset, ds := .reset, fs := .reset, gs := .reset }

/-- The engine at launch: every override full, every tag slot empty, no evaluation (70_reset R1201); the six
values are a DESIGN CHOICE (log 4). -/
def FlagEngine.reset : FlagEngine :=
  { tagCA := none, tagO := none, tagSZP := none
    ovrCF := some false, ovrPF := some false, ovrAF := some false
    ovrZF := some false, ovrSF := some false, ovrOF := some false
    evalCount := 0 }

/-- The machine right after reset. The spec states no reset value and makes each a launch parameter
(70_reset R1200-R1202); the values are those of log 1 to 8, 13, 14, 16. -/
def State.reset : State :=
  { gpr := .reset
    seg := .reset
    eip := 0x100#32
    flags := .reset
    flagsOther := 0
    accessorCache := []
    status := .running
    mem := []
    params := Config.launch
    pending := []
    draws := 0
    busLog := [] }

end Sys2Proof.Machine
end

