-- ==== Sys2Proof/Machine/Ops.lean ====
section
/-!
DEFINITION. The named operations over registers, memory, ports and control state. Every register, every memory
byte and every port is reached through these alone. The hand-over of a fault, a software interrupt or an
external interrupt to the surrounding machine is one operation too, `State.deliver`, in Machine/Deliver.lean.
-/
namespace Sys2Proof.Machine

/-! ### Field updates -/

/-- Replace the general registers. -/
def State.setGpr (g : Gpr) (s : State) : State := { s with gpr := g }

/-- `EIP <- t` (00_scope R11). -/
def State.setEip (t : Dword) (s : State) : State := { s with eip := t }

/-- Replace the flag engine. -/
def State.setFlags (f : FlagEngine) (s : State) : State := { s with flags := f }

/-- Replace the accessor cache. -/
def State.setCache (c : List Shape) (s : State) : State := { s with accessorCache := c }

/-- Set the run status (70_reset R1205). -/
def State.setStatus (r : RunStatus) (s : State) : State := { s with status := r }

/-- Replace memory. -/
def State.setMem (m : Memory) (s : State) : State := { s with mem := m }

/-- Record an interface call (log 14). -/
def State.record (c : BusCall) (s : State) : State := { s with busLog := c :: s.busLog }

/-- Set the number of free values taken (log 13). -/
def State.setDraws (n : Nat) (s : State) : State := { s with draws := n }

/-! ### General registers -/

/-- The whole 32-bit register (10_state R101). -/
def Gpr.get (r : Reg) (g : Gpr) : Dword :=
  match r with
  | .ax => g.eax
  | .cx => g.ecx
  | .dx => g.edx
  | .bx => g.ebx
  | .sp => g.esp
  | .bp => g.ebp
  | .si => g.esi
  | .di => g.edi

/-- Replace the whole 32-bit register (10_state R101). -/
def Gpr.set (r : Reg) (v : Dword) (g : Gpr) : Gpr :=
  match r with
  | .ax => { g with eax := v }
  | .cx => { g with ecx := v }
  | .dx => { g with edx := v }
  | .bx => { g with ebx := v }
  | .sp => { g with esp := v }
  | .bp => { g with ebp := v }
  | .si => { g with esi := v }
  | .di => { g with edi := v }

/-- The register that holds the 8-bit view of a number (10_state R103). -/
def byteHome : Reg → Reg
  | .ax => .ax
  | .cx => .cx
  | .dx => .dx
  | .bx => .bx
  | .sp => .ax
  | .bp => .cx
  | .si => .dx
  | .di => .bx

/-- Whether the 8-bit view of a number is bits 15:8 of its register, rather than bits 7:0 (10_state R103). -/
def byteHigh : Reg → Bool
  | .ax => false
  | .cx => false
  | .dx => false
  | .bx => false
  | .sp => true
  | .bp => true
  | .si => true
  | .di => true

/-- The register a view of a number lies in: an 8-bit view of 4 to 7 lies in register 0 to 3 (10_state R103). -/
def viewHome (w : Width) (r : Reg) : Reg :=
  match w with
  | .byte => byteHome r
  | .word => r
  | .dword => r

/-- `reg(r, n)` (00_scope R11; 10_state R101-R103). -/
def Gpr.read (w : Width) (r : Reg) (g : Gpr) : BitVec w.bits :=
  match w with
  | .byte => if byteHigh r then (g.get (byteHome r)).extractLsb' 8 8 else (g.get (byteHome r)).extractLsb' 0 8
  | .word => (g.get r).extractLsb' 0 16
  | .dword => g.get r

/-- A 32-bit register with its bits 7:0 replaced (10_state R103). -/
def withLowByte (x : Dword) (v : BitVec 8) : Dword := (x.extractLsb' 8 24 ++ v : BitVec (24 + 8))

/-- A 32-bit register with its bits 15:8 replaced (10_state R103). -/
def withHighByte (x : Dword) (v : BitVec 8) : Dword :=
  (x.extractLsb' 16 16 ++ v ++ x.extractLsb' 0 8 : BitVec (16 + 8 + 8))

/-- A 32-bit register with its bits 15:0 replaced (10_state R102). -/
def withLowWord (x : Dword) (v : BitVec 16) : Dword := (x.extractLsb' 16 16 ++ v : BitVec (16 + 16))

/-- `reg(r, n) <- v` (00_scope R11; 10_state R101-R103): only the bits of the view change. -/
def Gpr.write (w : Width) (r : Reg) (v : BitVec w.bits) (g : Gpr) : Gpr :=
  match w with
  | .byte =>
    if byteHigh r then g.set (byteHome r) (withHighByte (g.get (byteHome r)) v)
    else g.set (byteHome r) (withLowByte (g.get (byteHome r)) v)
  | .word => g.set r (withLowWord (g.get r) v)
  | .dword => g.set r v

/-- `reg(r, n)` of the state. -/
def State.readReg (w : Width) (r : Reg) (s : State) : BitVec w.bits := s.gpr.read w r

/-- `reg(r, n) <- v` on the state. -/
def State.writeReg (w : Width) (r : Reg) (v : BitVec w.bits) (s : State) : State :=
  s.setGpr (s.gpr.write w r v)

/-! ### Segments, linear addresses, the instruction pointer -/

/-- A segment register (10_state R110). -/
def SegFile.get (x : Seg) (f : SegFile) : SegReg :=
  match x with
  | .es => f.es
  | .cs => f.cs
  | .ss => f.ss
  | .ds => f.ds
  | .fs => f.fs
  | .gs => f.gs

/-- `segbase(x)` (10_state R110). -/
def State.segBase (x : Seg) (s : State) : Dword := (s.seg.get x).base

/-- `(segbase(x) + off) mod 2^32 & linearMask` (20_memory R210). -/
def State.linear (x : Seg) (off : Dword) (s : State) : Dword := (s.segBase x + off) &&& s.params.linearMask

/-- The address of byte `j` of an access at `lin`: `(lin + j) mod 2^32 & linearMask` (20_memory R203). -/
def State.byteAddr (lin : Dword) (j : Nat) (s : State) : Dword :=
  (lin + BitVec.ofNat 32 j) &&& s.params.linearMask

/-- `trunc` to a size: mod 2^16 or mod 2^32 (00_scope R10). -/
def truncTo (z : Size) (x : Dword) : Dword :=
  match z with
  | .b16 => x &&& 0xFFFF#32
  | .b32 => x

/-- `ipwrap(x) = trunc_codeSize(x)` (10_state R120). -/
def State.ipwrap (x : Dword) (s : State) : Dword := truncTo s.params.codeSize x

/-- `EIP <- ipwrap(EIP + len)` (10_state R121). -/
def State.advance (len : Nat) (s : State) : State := s.setEip (s.ipwrap (s.eip + BitVec.ofNat 32 len))

/-! ### Memory -/

/-- What an address that is not listed reads as (DESIGN CHOICE, log 8). -/
def Memory.blankByte : Byte := 0x00#8

/-- The byte at an address. -/
def Memory.read : Memory → Nat → Byte
  | [], _ => Memory.blankByte
  | (k, v) :: m, a => if k = a then v else Memory.read m a

/-- Take every entry of an address out. -/
def Memory.erase : Memory → Nat → Memory
  | [], _ => []
  | (k, w) :: m, a => if k = a then Memory.erase m a else (k, w) :: Memory.erase m a

/-- Put an entry in at its place, instead of the one at its address. -/
def Memory.insert : Memory → Nat → Byte → Memory
  | [], a, v => [(a, v)]
  | (k, w) :: m, a, v =>
    if a < k then (a, v) :: (k, w) :: m
    else if a = k then (a, v) :: m
    else (k, w) :: Memory.insert m a v

/-- Write a byte, keeping the canonical form. -/
def Memory.write (m : Memory) (a : Nat) (v : Byte) : Memory :=
  if v = Memory.blankByte then Memory.erase m a else Memory.insert m a v

/-- Every entry lies above `lo`, below 2^32, addresses strictly rise and no entry is blank. -/
def Memory.wfFrom (lo : Nat) : Memory → Bool
  | [] => true
  | (k, v) :: m => decide (lo ≤ k) && decide (k < 2 ^ 32) && v != Memory.blankByte && Memory.wfFrom (k + 1) m

/-- The canonical form: addresses strictly rising and below 2^32, no entry equal to what an unlisted address
reads as. -/
def Memory.wf (m : Memory) : Bool := Memory.wfFrom 0 m

/-- The byte of linear memory at an address (20_memory R205). -/
def State.byteAt (a : Dword) (s : State) : Byte := Memory.read s.mem a.toNat

/-- Whether an address lies in a range, both ends included. -/
def inRange (r : MmioRange) (a : Dword) : Bool :=
  decide (r.first.toNat ≤ a.toNat) && decide (a.toNat ≤ r.last.toNat)

/-- `mmio(a)` (20_memory R206). -/
def State.isMmio (a : Dword) (s : State) : Bool := s.params.mmio.any (inRange · a)

/-- Whether an access of `w` at `lin` touches a memory-mapped byte (20_memory R206). -/
def State.touchesMmio (w : Width) (lin : Dword) (s : State) : Bool :=
  (List.range w.bytes).any fun j => s.isMmio (s.byteAddr lin j)

/-- The little-endian value of the bytes `f 0`, `f 1`, ... (20_memory R203). -/
def assemble (w : Width) (f : Nat → Byte) : BitVec w.bits :=
  match w with
  | .byte => f 0
  | .word => (f 1 ++ f 0 : BitVec (8 + 8))
  | .dword => (f 3 ++ f 2 ++ f 1 ++ f 0 : BitVec (8 + 8 + 8 + 8))

/-- Byte `j` of a value: `v[8j+7 : 8j]` (20_memory R203). -/
def valueByte {n : Nat} (v : BitVec n) (j : Nat) : Byte := v.extractLsb' (8 * j) 8

/-- The value `MemRead(lin, k)` returns: of RAM its bytes (20_memory R203, R205); of an access that touches a
memory-mapped byte a draw (R206; log 10). -/
def State.memValue (w : Width) (lin : Dword) (s : State) : BitVec w.bits :=
  if s.touchesMmio w lin then (Config.drawMemory s.draws).setWidth w.bits
  else assemble w fun j => s.byteAt (s.byteAddr lin j)

/-- Take the free value of an access that touches a memory-mapped byte; other accesses take none. -/
def State.drawIfMmio (w : Width) (lin : Dword) (s : State) : State :=
  if s.touchesMmio w lin then s.setDraws (s.draws + 1) else s

/-- `MemRead(lin, k)`: one call of the memory interface (20_memory R201, R204). -/
def State.memRead (w : Width) (lin : Dword) (s : State) : BitVec w.bits × State :=
  (s.memValue w lin, (s.drawIfMmio w lin).record (.memRead lin w ((s.memValue w lin).setWidth 32)))

/-- Store byte `j` of a value: a RAM byte takes it, a memory-mapped byte leaves memory alone (20_memory R205,
R206; log 11). -/
def State.storeByte {n : Nat} (lin : Dword) (v : BitVec n) (s : State) (j : Nat) : State :=
  if s.isMmio (s.byteAddr lin j) then s
  else s.setMem (Memory.write s.mem (s.byteAddr lin j).toNat (valueByte v j))

/-- `MemWrite(lin, k, v)`: one call of the memory interface, the bytes from the lowest up (20_memory R201, R203,
R204). -/
def State.memWrite (w : Width) (lin : Dword) (v : BitVec w.bits) (s : State) : State :=
  ((List.range w.bytes).foldl (State.storeByte lin v) s).record (.memWrite lin w (v.setWidth 32))

/-! ### Ports -/

/-- The value `PortRead` returns: a draw (20_memory R230; log 12). -/
def State.portValue (w : Width) (s : State) : BitVec w.bits := (Config.drawPort s.draws).setWidth w.bits

/-- `PortRead(p, k)` (20_memory R230): one call of the port interface. -/
def State.portRead (w : Width) (p : BitVec 16) (s : State) : BitVec w.bits × State :=
  (s.portValue w, (s.setDraws (s.draws + 1)).record (.portRead p w ((s.portValue w).setWidth 32)))

/-- `PortWrite(p, k, v)` (20_memory R230): one call of the port interface, an event the device sees. -/
def State.portWrite (w : Width) (p : BitVec 16) (v : BitVec w.bits) (s : State) : State :=
  s.record (.portWrite p w (v.setWidth 32))

/-! ### The offered interrupt and the end of a run -/

/-- The input `pending` of this boundary (60_exceptions R1130; log 16). -/
def State.offered (s : State) : Option (BitVec 8) := s.pending.head?.join

/-- Take the input of this boundary: the next boundary reads the one after it (60_exceptions R1130; log 16). -/
def State.takeOffer (s : State) : State := { s with pending := s.pending.tail }

/-- `Refuse(reason)`: the run is over as `Refused` (60_exceptions R1106; 70_reset R1204; log 17). -/
def State.refuse (r : RefuseReason) (s : State) : State := s.setStatus (.refused r)

/-- `DecodeFault(reason)`: the run is over as `Fatal` (60_exceptions R1104; 70_reset R1204). -/
def State.decodeFault (r : DecodeFaultReason) (s : State) : State := s.setStatus (.fatal r)

/-! ### Instruction fetch -/

/-- `fetch8()` of instruction byte `k`: one read at `segbase(CS) + ipwrap(EIP + k)` (10_state R120; 30_encoding
R302). -/
def State.fetchByte (k : Nat) (s : State) : Byte × State :=
  s.memRead .byte (s.linear .cs (s.ipwrap (s.eip + BitVec.ofNat 32 k)))

/-- The `n` instruction bytes from byte `k` on, in stream order, and the state after reading them. -/
def State.fetchBytes : Nat → Nat → State → List Byte × State
  | 0, _, s => ([], s)
  | n + 1, k, s =>
    ((s.fetchByte k).1 :: (State.fetchBytes n (k + 1) (s.fetchByte k).2).1,
      (State.fetchBytes n (k + 1) (s.fetchByte k).2).2)

/-- The window the decoder works on: the bytes it would fetch, were it to fetch all 15. -/
def State.window (s : State) : List Byte := (s.fetchBytes maxLength 0).1

/-- The state after the fetches of a decode that read `n` bytes (30_encoding R350, R351). -/
def State.afterFetch (n : Nat) (s : State) : State := (s.fetchBytes n 0).2

/-! ### Loading an instruction from outside -/

/-- Put bytes where instruction bytes `k`, `k+1`, ... are fetched from: memory contents are a launch parameter
(70_reset R1200; log 22). -/
def State.placeBytes : List Byte → Nat → State → State
  | [], _, s => s
  | b :: bs, k, s =>
    State.placeBytes bs (k + 1)
      (s.setMem (Memory.write s.mem (s.linear .cs (s.ipwrap (s.eip + BitVec.ofNat 32 k))).toNat b))

/-- The launch parameters under which the bytes at `EIP` are fetched as they were placed: no mask that would put
two of them at one address, no memory-mapped byte among them, `stopIP` elsewhere (log 22). -/
def State.openFetch (s : State) : State :=
  { s with
    status := .running
    pending := []
    params :=
      { s.params with
        linearMask := 0xFFFFFFFF#32
        mmio := []
        stopIP := if s.params.stopIP = s.eip then ~~~s.eip else s.params.stopIP } }

end Sys2Proof.Machine
end

