-- ==== Sys2Proof/Machine/Flags.lean ====
section
/-!
DEFINITION. The flag engine (40_flag_engine): the truth table of every tag, the read that reconstructs and
caches a flag, the group update of every `write flags`, the sixteen conditions (45_flag_consumers R910), the
FLAGS image and the introspection snapshot (10_state R130, R150).
-/
namespace Sys2Proof.Machine

/-! ### Arithmetic of the truth tables -/

/-- `rotl_k(x, t)` for `0 <= t < k` (40_flag_engine R417). -/
def rotl {k : Nat} (x : BitVec k) (t : Nat) : BitVec k := (x <<< t) ||| (x >>> (k - t))

/-- `rotr_k(x, t) = rotl_k(x, (k - t) mod k)` (40_flag_engine R417). -/
def rotr {k : Nat} (x : BitVec k) (t : Nat) : BitVec k := rotl x ((k - t) % k)

/-- The result of ROL: `rotl_n(a, c mod n)` (40_flag_engine R417; 44_shift_rotate R813). -/
def rolResult (w : Width) (a : BitVec w.bits) (c : BitVec 5) : BitVec w.bits := rotl a (c.toNat % w.bits)

/-- The result of ROR: `rotr_n(a, c mod n)` (40_flag_engine R417; 44_shift_rotate R814). -/
def rorResult (w : Width) (a : BitVec w.bits) (c : BitVec 5) : BitVec w.bits := rotr a (c.toNat % w.bits)

/-- The count of a rotate through carry: `c mod (n+1)` below 32 bits, else `c` (40_flag_engine R417). -/
def carryCount (w : Width) (c : BitVec 5) : Nat :=
  match w with
  | .byte => c.toNat % 9
  | .word => c.toNat % 17
  | .dword => c.toNat

/-- `Y` of RCL: the carry above the operand, rotated left (40_flag_engine R417). -/
def rclWide (w : Width) (a : BitVec w.bits) (c : BitVec 5) (b : Bool) : BitVec (w.bits + 1) :=
  rotl (BitVec.cons b a) (carryCount w c)

/-- `Y` of RCR: the carry above the operand, rotated right (40_flag_engine R417). -/
def rcrWide (w : Width) (a : BitVec w.bits) (c : BitVec 5) (b : Bool) : BitVec (w.bits + 1) :=
  rotr (BitVec.cons b a) (carryCount w c)

/-- The result of RCL: `Y[n-1:0]` (44_shift_rotate R815). -/
def rclResult (w : Width) (a : BitVec w.bits) (c : BitVec 5) (b : Bool) : BitVec w.bits :=
  (rclWide w a c b).setWidth w.bits

/-- The result of RCR: `Y[n-1:0]` (44_shift_rotate R816). -/
def rcrResult (w : Width) (a : BitVec w.bits) (c : BitVec 5) (b : Bool) : BitVec w.bits :=
  (rcrWide w a c b).setWidth w.bits

/-- Whether an integer lies outside the signed range `[-2^(n-1), 2^(n-1) - 1]` (40_flag_engine R411). -/
def outsideSigned (n : Nat) (x : Int) : Bool := !(decide (-(2 ^ (n - 1)) ≤ x) && decide (x ≤ 2 ^ (n - 1) - 1))

/-- `AF = ((a XOR b XOR r) & 0x10) != 0` (40_flag_engine R411). -/
def auxCarry (w : Width) (a b r : BitVec w.bits) : Bool := (a ^^^ b ^^^ r).getLsbD 4

/-- `msb_n(v) = v[n-1]` (00_scope R10). -/
def topBit (w : Width) (v : BitVec w.bits) : Bool := v.getLsbD (w.bits - 1)

/-- `v[n-2]`. -/
def nextBit (w : Width) (v : BitVec w.bits) : Bool := v.getLsbD (w.bits - 2)

/-- `popcount(r[7:0]) mod 2 = 0` (40_flag_engine R418). -/
def evenParity (w : Width) (r : BitVec w.bits) : Bool :=
  ((List.range 8).countP fun i => r.getLsbD i) % 2 == 0

/-- The carry-in as a number (00_scope R10). -/
def bitNat (b : Bool) : Nat := if b then 1 else 0

/-! ### Truth tables -/

/-- `CF` of a tag (40_flag_engine R411-R417). -/
def evalCF : Tag → Option Bool
  | .add w a b => some (((a.toNat + b.toNat) &&& 2 ^ w.bits) != 0)
  | .adc w a b c => some (((a.toNat + b.toNat + bitNat c) &&& 2 ^ w.bits) != 0)
  | .sub _ a b => some (decide ((a.toNat : Int) - b.toNat < 0))
  | .sbb _ a b c => some (decide ((a.toNat : Int) - b.toNat - bitNat c < 0))
  | .mul w a b => some (((a.toNat * b.toNat) >>> w.bits) != 0)
  | .imul w a b => some (outsideSigned w.bits (a.toInt * b.toInt))
  | .imul23 w a b => some (outsideSigned w.bits (a.toInt * b.toInt))
  | .shl1 w a => some (topBit w a)
  | .shl w a c => some (a.getLsbD (w.bits - c.toNat))
  | .shr1 _ a => some (a.getLsbD 0)
  | .shr _ a c => some (a.getLsbD (c.toNat - 1))
  | .sar1 _ a => some (a.getLsbD 0)
  | .sar w a c => some (a.getLsbD (min c.toNat w.bits - 1))
  | .rol w a c => some ((rolResult w a c).getLsbD 0)
  | .ror w a c => some (topBit w (rorResult w a c))
  | .rcl w a c b => some ((rclWide w a c b).getLsbD w.bits)
  | .rcr w a c b => some ((rcrWide w a c b).getLsbD w.bits)
  | .value _ _ => none

/-- `AF` of a tag (40_flag_engine R411-R414). -/
def evalAF : Tag → Option Bool
  | .add w a b => some (auxCarry w a b (a + b))
  | .adc w a b c => some (auxCarry w a b (a + b + BitVec.ofNat w.bits (bitNat c)))
  | .sub w a b => some (auxCarry w a b (a - b))
  | .sbb w a b c => some (auxCarry w a b (a - b - BitVec.ofNat w.bits (bitNat c)))
  | .mul _ _ _ => none
  | .imul _ _ _ => none
  | .imul23 _ _ _ => none
  | .shl1 _ _ => none
  | .shl _ _ _ => none
  | .shr1 _ _ => none
  | .shr _ _ _ => none
  | .sar1 _ _ => none
  | .sar _ _ _ => none
  | .rol _ _ _ => none
  | .ror _ _ _ => none
  | .rcl _ _ _ _ => none
  | .rcr _ _ _ _ => none
  | .value _ _ => none

/-- `OF` of a tag (40_flag_engine R411-R417); a rotate tag defines it for the count 1 alone. -/
def evalOF : Tag → Option Bool
  | .add w a b => some (outsideSigned w.bits (a.toInt + b.toInt))
  | .adc w a b c => some (outsideSigned w.bits (a.toInt + b.toInt + bitNat c))
  | .sub w a b => some (outsideSigned w.bits (a.toInt - b.toInt))
  | .sbb w a b c => some (outsideSigned w.bits (a.toInt - b.toInt - bitNat c))
  | .mul w a b => some (((a.toNat * b.toNat) >>> w.bits) != 0)
  | .imul w a b => some (outsideSigned w.bits (a.toInt * b.toInt))
  | .imul23 w a b => some (outsideSigned w.bits (a.toInt * b.toInt))
  | .shl1 w a => some (topBit w a ^^ nextBit w a)
  | .shl _ _ _ => none
  | .shr1 w a => some (topBit w a)
  | .shr _ _ _ => none
  | .sar1 _ _ => some false
  | .sar _ _ _ => none
  | .rol w a c => if c = 1#5 then some (topBit w (rolResult w a c) ^^ (rolResult w a c).getLsbD 0) else none
  | .ror w a c => if c = 1#5 then some (topBit w (rorResult w a c) ^^ nextBit w (rorResult w a c)) else none
  | .rcl w a c b =>
    if c = 1#5 then some (topBit w (rclResult w a c b) ^^ (rclWide w a c b).getLsbD w.bits) else none
  | .rcr w a c b => if c = 1#5 then some (topBit w (rcrResult w a c b) ^^ nextBit w (rcrResult w a c b)) else none
  | .value _ _ => none

/-- The result a `Value` tag holds decides `SF`, `ZF` and `PF` (40_flag_engine R418); no other tag does. -/
def evalSZP (f : (w : Width) → BitVec w.bits → Bool) : Tag → Option Bool
  | .value w r => some (f w r)
  | .add _ _ _ => none
  | .adc _ _ _ _ => none
  | .sub _ _ _ => none
  | .sbb _ _ _ _ => none
  | .mul _ _ _ => none
  | .imul _ _ _ => none
  | .imul23 _ _ _ => none
  | .shl1 _ _ => none
  | .shl _ _ _ => none
  | .shr1 _ _ => none
  | .shr _ _ _ => none
  | .sar1 _ _ => none
  | .sar _ _ _ => none
  | .rol _ _ _ => none
  | .ror _ _ _ => none
  | .rcl _ _ _ _ => none
  | .rcr _ _ _ _ => none

/-- `eval(F, t)` (40_flag_engine R419): none where the tag does not define the flag (R410). -/
def evalFlag (f : Flag) (t : Tag) : Option Bool :=
  match f with
  | .cf => evalCF t
  | .af => evalAF t
  | .of => evalOF t
  | .sf => evalSZP topBit t
  | .zf => evalSZP (fun w r => r == 0#w.bits) t
  | .pf => evalSZP evenParity t

/-- Whether a tag defines a flag (40_flag_engine R410). -/
def definesFlag (t : Tag) (f : Flag) : Bool := (evalFlag f t).isSome

/-! ### Slots -/

/-- `group(F)` (40_flag_engine R420). -/
def groupOf : Flag → FlagGroup
  | .cf => .ca
  | .af => .ca
  | .of => .o
  | .sf => .szp
  | .zf => .szp
  | .pf => .szp

/-- The flags of a group (40_flag_engine R420). -/
def flagsOf : FlagGroup → List Flag
  | .ca => [.cf, .af]
  | .o => [.of]
  | .szp => [.sf, .zf, .pf]

/-- `tag_g` (40_flag_engine R421). -/
def FlagEngine.tag (g : FlagGroup) (e : FlagEngine) : Option Tag :=
  match g with
  | .ca => e.tagCA
  | .o => e.tagO
  | .szp => e.tagSZP

/-- `tag_g <- t`. -/
def FlagEngine.setTag (g : FlagGroup) (t : Option Tag) (e : FlagEngine) : FlagEngine :=
  match g with
  | .ca => { e with tagCA := t }
  | .o => { e with tagO := t }
  | .szp => { e with tagSZP := t }

/-- `ovr_F` (40_flag_engine R421). -/
def FlagEngine.ovr (f : Flag) (e : FlagEngine) : Option Bool :=
  match f with
  | .cf => e.ovrCF
  | .pf => e.ovrPF
  | .af => e.ovrAF
  | .zf => e.ovrZF
  | .sf => e.ovrSF
  | .of => e.ovrOF

/-- `ovr_F <- v`. -/
def FlagEngine.setOvr (f : Flag) (v : Option Bool) (e : FlagEngine) : FlagEngine :=
  match f with
  | .cf => { e with ovrCF := v }
  | .pf => { e with ovrPF := v }
  | .af => { e with ovrAF := v }
  | .zf => { e with ovrZF := v }
  | .sf => { e with ovrSF := v }
  | .of => { e with ovrOF := v }

/-! ### Reading -/

/-- `eval(F, tag_group(F))`. Where the group holds no tag that defines the flag, which the engine invariant
(40_flag_engine R422) rules out together with an empty override, the value is free (log 20). -/
def FlagEngine.pendingValue (f : Flag) (e : FlagEngine) : Bool :=
  match (e.tag (groupOf f)).bind (evalFlag f) with
  | some v => v
  | none => Config.unrecordedFlag

/-- The resolved value of a flag, which a read returns (40_flag_engine R430, R450). -/
def FlagEngine.value (f : Flag) (e : FlagEngine) : Bool :=
  match e.ovr f with
  | some v => v
  | none => e.pendingValue f

/-- Evaluate a pending flag and cache it as its override; the tag is kept (40_flag_engine R430). -/
def FlagEngine.resolve (f : Flag) (e : FlagEngine) : FlagEngine :=
  match e.ovr f with
  | some _ => e
  | none => { e.setOvr f (some (e.pendingValue f)) with evalCount := e.evalCount + 1 }

/-- The resolved value of a flag of the state. -/
def State.flag (f : Flag) (s : State) : Bool := s.flags.value f

/-- `flag(F)` (40_flag_engine R430): the value, and the state with the cache filled. -/
def State.readFlag (f : Flag) (s : State) : Bool × State := (s.flag f, s.setFlags (s.flags.resolve f))

/-! ### Writing -/

/-- What an instruction does to a flag (40_flag_engine R440). -/
inductive FlagAction where
  | lazy (t : Tag)
  | explicit (b : Bool)
  | undef
  | keep

/-- An action per flag; a flag not named is kept (40_flag_engine R440). -/
structure FlagActions where
  cf : FlagAction := .keep
  pf : FlagAction := .keep
  af : FlagAction := .keep
  zf : FlagAction := .keep
  sf : FlagAction := .keep
  of : FlagAction := .keep

/-- The action of a flag. -/
def FlagActions.get (f : Flag) (a : FlagActions) : FlagAction :=
  match f with
  | .cf => a.cf
  | .pf => a.pf
  | .af => a.af
  | .zf => a.zf
  | .sf => a.sf
  | .of => a.of

/-- Whether an action is `Keep`. -/
def FlagAction.isKeep : FlagAction → Bool
  | .keep => true
  | .lazy _ => false
  | .explicit _ => false
  | .undef => false

/-- The tag of a `Lazy` action. -/
def FlagAction.tag? : FlagAction → Option Tag
  | .lazy t => some t
  | .explicit _ => none
  | .undef => none
  | .keep => none

/-- Materialise a flag that is kept while its group is written (40_flag_engine R440; 90_conflicts C1). -/
def materialise (a : FlagActions) (e : FlagEngine) (f : Flag) : FlagEngine :=
  if (a.get f).isKeep then e.resolve f else e

/-- Apply one flag's action, with the number of free values taken (40_flag_engine R440, R445; log 9). -/
def applyAction (a : FlagActions) (p : FlagEngine × Nat) (f : Flag) : FlagEngine × Nat :=
  match a.get f with
  | .lazy _ => (p.1.setOvr f none, p.2)
  | .explicit b => (p.1.setOvr f (some b), p.2)
  | .undef => (p.1.setOvr f (some (Config.drawFlag p.2)), p.2 + 1)
  | .keep => p

/-- The tag a group takes: that of a `Lazy` action in it, if there is one (40_flag_engine R440). -/
def groupTag (a : FlagActions) (g : FlagGroup) : Option Tag := (flagsOf g).findSome? fun f => (a.get f).tag?

/-- The group update (40_flag_engine R440). -/
def writeGroup (a : FlagActions) (p : FlagEngine × Nat) (g : FlagGroup) : FlagEngine × Nat :=
  if (flagsOf g).all fun f => (a.get f).isKeep then p
  else
    (flagsOf g).foldl (applyAction a)
      (((flagsOf g).foldl (materialise a) p.1).setTag g (groupTag a g), p.2)

/-- `write flags` on the engine: the groups in turn (40_flag_engine R440). -/
def FlagEngine.write (a : FlagActions) (p : FlagEngine × Nat) : FlagEngine × Nat :=
  [FlagGroup.ca, .o, .szp].foldl (writeGroup a) p

/-- `write flags` (40_flag_engine R440). -/
def State.writeFlags (a : FlagActions) (s : State) : State :=
  (s.setFlags (FlagEngine.write a (s.flags, s.draws)).1).setDraws (FlagEngine.write a (s.flags, s.draws)).2

/-- The actions of a result that sets SF, ZF and PF (40_flag_engine R418, R446) with `c`, `a`, `o` for CF, AF, OF. -/
def resultActions (w : Width) (r : BitVec w.bits) (c a o : FlagAction) : FlagActions :=
  { cf := c
    af := a
    of := o
    sf := .lazy (.value w r)
    zf := .lazy (.value w r)
    pf := .lazy (.value w r) }

/-- Every flag undefined (43_muldiv R720, R721). -/
def allUndefined : FlagActions :=
  { cf := .undef, pf := .undef, af := .undef, zf := .undef, sf := .undef, of := .undef }

/-! ### Conditions -/

/-- The sixteen conditions (45_flag_consumers R910), `cc` from 0 to 15 in this order. -/
inductive Cond where
  | o
  | no
  | b
  | ae
  | e
  | ne
  | be
  | a
  | s
  | ns
  | p
  | np
  | l
  | ge
  | le
  | g
deriving DecidableEq, Repr

/-- `cond(cc)` with its flag reads, each flag of the row once, in the row's order (45_flag_consumers R910, R911). -/
def State.readCond (c : Cond) (s : State) : Bool × State :=
  match c with
  | .o => s.readFlag .of
  | .no => (!(s.readFlag .of).1, (s.readFlag .of).2)
  | .b => s.readFlag .cf
  | .ae => (!(s.readFlag .cf).1, (s.readFlag .cf).2)
  | .e => s.readFlag .zf
  | .ne => (!(s.readFlag .zf).1, (s.readFlag .zf).2)
  | .be =>
    let x := s.readFlag .cf
    let y := x.2.readFlag .zf
    (x.1 || y.1, y.2)
  | .a =>
    let x := s.readFlag .cf
    let y := x.2.readFlag .zf
    (!x.1 && !y.1, y.2)
  | .s => s.readFlag .sf
  | .ns => (!(s.readFlag .sf).1, (s.readFlag .sf).2)
  | .p => s.readFlag .pf
  | .np => (!(s.readFlag .pf).1, (s.readFlag .pf).2)
  | .l =>
    let x := s.readFlag .sf
    let y := x.2.readFlag .of
    (x.1 != y.1, y.2)
  | .ge =>
    let x := s.readFlag .sf
    let y := x.2.readFlag .of
    (x.1 == y.1, y.2)
  | .le =>
    let z := s.readFlag .zf
    let x := z.2.readFlag .sf
    let y := x.2.readFlag .of
    (z.1 || x.1 != y.1, y.2)
  | .g =>
    let z := s.readFlag .zf
    let x := z.2.readFlag .sf
    let y := x.2.readFlag .of
    (!z.1 && x.1 == y.1, y.2)

/-! ### The FLAGS image and introspection -/

/-- The FLAGS bits the block holds or that are constant: 0-7 and 11 (10_state R130, R133). -/
def heldBits : Dword := 0x000008FF#32

/-- One bit of the image. -/
def flagBit (b : Bool) (i : Nat) : Dword := (BitVec.ofBool b).setWidth 32 <<< i

/-- `FLAGS32` (10_state R130). -/
def State.flags32 (s : State) : Dword :=
  (s.flagsOther &&& ~~~heldBits) ||| 0x2#32 ||| flagBit (s.flag .cf) 0 ||| flagBit (s.flag .pf) 2
    ||| flagBit (s.flag .af) 4 ||| flagBit (s.flag .zf) 6 ||| flagBit (s.flag .sf) 7 ||| flagBit (s.flag .of) 11

/-- A snapshot of the general registers, `EIP` and `FLAGS32` (10_state R150). -/
structure Snapshot where
  gpr : Gpr
  eip : Dword
  flags32 : Dword
deriving DecidableEq, Repr

/-- The introspection interface (10_state R150): it resolves every flag as an internal read would. -/
def State.snapshot (s : State) : Snapshot × State :=
  ({ gpr := s.gpr, eip := s.eip, flags32 := s.flags32 },
    s.setFlags ([Flag.cf, .pf, .af, .zf, .sf, .of].foldl (fun e f => e.resolve f) s.flags))

end Sys2Proof.Machine
end

