-- ==== Sys2Proof/Machine/Operands.lean ====
section
/-!
DEFINITION. The addressing resolver (30_encoding R315-R328) and the operand accessors (30_encoding R330-R345):
every operand form of the block, its shape, its load and its store.
-/
namespace Sys2Proof.Machine

/-! ### Effective addresses -/

/-- A 16-bit register view. -/
def State.r16 (r : Reg) (s : State) : BitVec 16 := s.readReg .word r

/-- A 32-bit register. -/
def State.r32 (r : Reg) (s : State) : Dword := s.readReg .dword r

/-- The register sum of a 16-bit form (30_encoding R315). -/
def State.base16 (b : Base16) (s : State) : BitVec 16 :=
  match b with
  | .bxSi => s.r16 .bx + s.r16 .si
  | .bxDi => s.r16 .bx + s.r16 .di
  | .bpSi => s.r16 .bp + s.r16 .si
  | .bpDi => s.r16 .bp + s.r16 .di
  | .si => s.r16 .si
  | .di => s.r16 .di
  | .bp => s.r16 .bp
  | .bx => s.r16 .bx

/-- A 16-bit displacement, disp8 sign-extended (30_encoding R316). -/
def disp16Value : Disp16 → BitVec 16
  | .none => 0#16
  | .d8 d => d.signExtend 16
  | .d16 d => d

/-- A 32-bit displacement, disp8 sign-extended (30_encoding R320). -/
def disp32Value : Disp32 → Dword
  | .none => 0#32
  | .d8 d => d.signExtend 32
  | .d32 d => d

/-- The scaled index: 0 for the number 4 (30_encoding R321, R322). -/
def State.scaledIndex (scale : BitVec 2) (index : Reg) (s : State) : Dword :=
  if index = .sp then 0#32 else s.r32 index <<< scale.toNat

/-- SS when the base involves BP, else DS (30_encoding R317). -/
def base16Segment : Base16 → Seg
  | .bxSi => .ds
  | .bxDi => .ds
  | .bpSi => .ss
  | .bpDi => .ss
  | .si => .ds
  | .di => .ds
  | .bp => .ss
  | .bx => .ds

/-- The default segment of a 32-bit base without SIB: SS for EBP, else DS (30_encoding R324). -/
def base32Segment (b : Reg) : Seg := if b = .bp then .ss else .ds

/-- The segment `espBaseSegment` names (30_encoding R324; 90_conflicts C4). -/
def espSegment (p : Params) : Seg :=
  match p.espBaseSegment with
  | .ds => .ds
  | .ss => .ss

/-- The default segment of a SIB base: SS for EBP, `espBaseSegment` for ESP, else DS (30_encoding R324). -/
def State.sibSegment (b : Reg) (s : State) : Seg :=
  if b = .bp then .ss else if b = .sp then espSegment s.params else .ds

/-- A default segment with its offset (30_encoding R315-R325). -/
structure Address where
  segment : Seg
  offset : Dword
deriving DecidableEq, Repr

/-- The linear address of an offset: the override segment if the instruction has one, else the default
(30_encoding R307, R327). -/
def State.linearOf (h : Head) (a : Address) (s : State) : Dword :=
  s.linear (h.segmentOverride.getD a.segment) a.offset

/-! ### Locations -/

/-- Where an operand lives: `Reg(r, n)` or `Mem(lin, n/8)` (30_encoding R332). -/
inductive Loc where
  | reg (r : Reg)
  | mem (lin : Dword)
deriving DecidableEq, Repr

/-- The location of an `r/m` operand: the register, or the linear address of the default segment and the effective
offset of its form (30_encoding R312, R315-R325, R327, R341). -/
def State.eLoc (h : Head) (e : EOperand) (s : State) : Loc :=
  match e with
  | .reg r => .reg r
  | .mem16 b d => .mem (s.linearOf h ⟨base16Segment b, (s.base16 b + disp16Value d).setWidth 32⟩)
  | .direct16 d => .mem (s.linearOf h ⟨.ds, d.setWidth 32⟩)
  | .mem32 b d => .mem (s.linearOf h ⟨base32Segment b, s.r32 b + disp32Value d⟩)
  | .direct32 d => .mem (s.linearOf h ⟨.ds, d⟩)
  | .sib sc i b d => .mem (s.linearOf h ⟨s.sibSegment b, s.r32 b + s.scaledIndex sc i + disp32Value d⟩)
  | .sibNoBase sc i d => .mem (s.linearOf h ⟨.ds, s.scaledIndex sc i + d⟩)

/-- `Load(location)` without its effects: the value it returns. -/
def State.locValue (w : Width) (l : Loc) (s : State) : BitVec w.bits :=
  match l with
  | .reg r => s.readReg w r
  | .mem lin => s.memValue w lin

/-- `Load(location)` (30_encoding R332, R340, R341): memory is read by one interface call. -/
def State.loadLoc (w : Width) (l : Loc) (s : State) : BitVec w.bits × State :=
  match l with
  | .reg r => (s.readReg w r, s)
  | .mem lin => s.memRead w lin

/-- `Store(location, v)` (30_encoding R338). -/
def State.storeLoc (w : Width) (l : Loc) (v : BitVec w.bits) (s : State) : State :=
  match l with
  | .reg r => s.writeReg w r v
  | .mem lin => s.memWrite w lin v

/-! ### Operands -/

/-- An operand of a row: the kinds of 30_encoding R331 that the block uses, with what the decoder read for
them. -/
inductive Operand where
  /-- `G`: the register of the ModRM `reg` field, or of the low opcode bits (`Zv`). -/
  | register (r : Reg)
  /-- `E`: the `r/m` operand. -/
  | memory (e : EOperand)
  /-- `Ib` or `Jb`, sign-extended or zero-extended (30_encoding R333). -/
  | imm8 (v : BitVec 8) (signed : Bool)
  /-- `Iz` of the operand's own width, or `Jz`, which is signed (30_encoding R333, R342). -/
  | immZ (v : Dword) (signed : Bool)
  /-- `AL`, `eAX`, `CL`, `DX` (30_encoding R331, R343). -/
  | fixed (r : Reg)
  /-- The constant 1 (30_encoding R331, R343). -/
  | one
deriving DecidableEq, Repr

/-- The `valueSize` of an operand width (30_encoding R334). -/
def valueSizeOf : Width → ValueSize
  | .byte => .s1
  | .word => .s2
  | .dword => .s4

/-- The shape of an operand read at width `w` (30_encoding R330-R334). The addressing width is the instruction's
address size; no shape of the block is floating-point or memory-only (R334). DESIGN CHOICE (log 31), where the spec
names no value: the register of the low opcode bits (`Zv`, 42_alu_unary R600) has the kind `register`, as `G` has,
the constant 1 has the size `w` at which its row requests it, and the signedness is false in every shape but those of
the immediates that 30_encoding R333 calls signed: R333 says it of them and of the unsigned `Ib` alone, so it is open
for `register`, `memory`, `fixed`, `one` and an unlisted immediate of the operand's own width. -/
def operandShape (h : Head) (w : Width) (mode : AccessMode) (o : Operand) : Shape :=
  match o with
  | .register _ => ⟨.register, valueSizeOf w, h.addrSize, mode, false, false, false⟩
  | .memory _ => ⟨.memory, valueSizeOf w, h.addrSize, mode, false, false, false⟩
  | .imm8 _ signed => ⟨.immediate, .s1, h.addrSize, mode, signed, false, false⟩
  | .immZ _ signed => ⟨.immediate, valueSizeOf w, h.addrSize, mode, signed, false, false⟩
  | .fixed r => ⟨.fixed r, valueSizeOf w, h.addrSize, mode, false, false, false⟩
  | .one => ⟨.one, valueSizeOf w, h.addrSize, mode, false, false, false⟩

/-- `GetOrCreate(shape)` (30_encoding R336): the shape is cached at its first request (log 18). -/
def State.getOrCreate (x : Shape) (s : State) : State :=
  if s.accessorCache.contains x then s else s.setCache (s.accessorCache ++ [x])

/-- Request the accessors of shapes in turn (30_encoding R336). -/
def State.requestAll (xs : List Shape) (s : State) : State := xs.foldl (fun t x => t.getOrCreate x) s

/-- Request the accessors of implicit registers, each at a width, in turn (30_encoding R331; 43_muldiv R700). -/
def State.requestFixed (h : Head) (mode : AccessMode) (rs : List (Width × Reg)) (s : State) : State :=
  s.requestAll (rs.map fun x => operandShape h x.1 mode (.fixed x.2))

/-- The value of an operand at width `w`, as `ReadValue` returns it (30_encoding R333, R340-R343). -/
def State.operandValue (w : Width) (h : Head) (o : Operand) (s : State) : BitVec w.bits :=
  match o with
  | .register r => s.readReg w r
  | .memory e => s.locValue w (s.eLoc h e)
  | .imm8 v signed => if signed then v.signExtend w.bits else v.setWidth w.bits
  | .immZ v _ => v.setWidth w.bits
  | .fixed r => s.readReg w r
  | .one => 1#w.bits

/-- `Load` through the accessor of a `ReadValue` shape (30_encoding R332, R335): only an `r/m` operand in memory
makes an interface call. -/
def State.loadValue (w : Width) (h : Head) (o : Operand) (s : State) : BitVec w.bits × State :=
  let s' := s.getOrCreate (operandShape h w .readValue o)
  match o with
  | .memory e => s'.loadLoc w (s'.eLoc h e)
  | .register _ => (s'.operandValue w h o, s')
  | .imm8 _ _ => (s'.operandValue w h o, s')
  | .immZ _ _ => (s'.operandValue w h o, s')
  | .fixed _ => (s'.operandValue w h o, s')
  | .one => (s'.operandValue w h o, s')

/-- The operands that have a location: the destinations of the block (30_encoding R332). -/
inductive Dest where
  | register (r : Reg)
  | memory (e : EOperand)
  | fixed (r : Reg)
deriving DecidableEq, Repr

/-- A destination as an operand. -/
def Dest.operand : Dest → Operand
  | .register r => .register r
  | .memory e => .memory e
  | .fixed r => .fixed r

/-- The location of a destination (30_encoding R340, R341, R343). -/
def State.destLoc (h : Head) (d : Dest) (s : State) : Loc :=
  match d with
  | .register r => .reg r
  | .memory e => s.eLoc h e
  | .fixed r => .reg r

/-- `Load` through the accessor of a `ReadAddress` shape: the location, computed once (30_encoding R332, R344).
No memory is read. -/
def State.loadAddress (w : Width) (h : Head) (d : Dest) (s : State) : Loc × State :=
  (s.destLoc h d, s.getOrCreate (operandShape h w .readAddress d.operand))

end Sys2Proof.Machine
end

