-- ==== Sys2Proof/Machine/Deliver.lean ====
section
/-!
DEFINITION. The hand-over of a fault, a software interrupt or an external interrupt to the surrounding machine, as
one operation, `State.deliver` (60_exceptions R1120-R1122; 70_reset R1204, R1207), and the three ways an instruction
raises an event. The block has no return from a handler (60_exceptions R1121: IRET is outside the block): the
surrounding machine resumes the block with the state it hands back.
-/
namespace Sys2Proof.Machine

/-- The six flags. -/
def allFlags : List Flag := [.cf, .pf, .af, .zf, .sf, .of]

/-- The engine invariant (40_flag_engine R422): a flag with an empty override has a tag in its group that defines
it. -/
def FlagEngine.valid (e : FlagEngine) : Bool :=
  allFlags.all fun f => (e.ovr f).isSome || (e.tag (groupOf f)).any (definesFlag · f)

/-- The new state `deliver` hands back, in the components it may change (70_reset R1207: "run a handler, change any
state"). The shapes are those it requested of the accessor cache, which only grows (30_encoding R336). The launch
parameters stay constant (70_reset R1200). -/
structure Resumption where
  gpr : Gpr
  seg : SegFile
  eip : Dword
  flags : FlagEngine
  flagsOther : Dword
  shapes : List Shape
  mem : Memory
deriving DecidableEq, Repr

end Sys2Proof.Machine

namespace Sys2Proof

/-- The parameter `deliver` of a surrounding machine (60_exceptions R1120), OPEN: for the state and the event, the new
state it hands back, or none for `Stop`. It is free: nothing in Lean can evaluate it (log 15). -/
opaque Config.hostDeliver : Machine.State → Machine.Event → Option Machine.Resumption

end Sys2Proof

namespace Sys2Proof.Machine

/-- `deliver` returns `Stop` (70_reset R1204): a fault ends the run as `Faulted`, a software or external interrupt as
`Trapped`; nothing else changes. -/
def State.stopRun (e : Event) (s : State) : State :=
  match e with
  | .fault v => s.setStatus (.faulted (.fault v))
  | .softInt v => s.setStatus (.trapped (.softInt v))
  | .external v => s.setStatus (.trapped (.external v))

/-- `deliver` returns a new state, with which the run goes on (60_exceptions R1120; 70_reset R1204, R1207). `EIP` is
reduced as every `EIP` is (10_state R120). What is no state of the block, memory out of its canonical form or a flag
engine that breaks 40_flag_engine R422, is not taken over (log 15). -/
def State.resume (x : Resumption) (s : State) : State :=
  State.requestAll x.shapes
    { s with
      gpr := x.gpr
      seg := x.seg
      eip := s.ipwrap x.eip
      flags := if x.flags.valid then x.flags else s.flags
      flagsOther := x.flagsOther
      mem := if Memory.wf x.mem then x.mem else s.mem
      draws := s.draws + 1 }

/-- `deliver(state, event)` (60_exceptions R1120; 70_reset R1204): `Stop` under the default, else what the surrounding
machine answers (log 15). -/
def State.deliver (e : Event) (s : State) : State :=
  match s.params.deliver with
  | .stop => s.stopRun e
  | .host =>
    match Config.hostDeliver s e with
    | none => s.stopRun e
    | some x => s.resume x

/-- `raise #DE`, vector 0 (60_exceptions R1101): delivered with `EIP` and everything else as at the start (R1105). -/
def State.raiseDE (s : State) : State := s.deliver (.fault 0#8)

/-- `raise #UD`, vector 6 (60_exceptions R1102): delivered with `EIP` and everything else as at the start (R1105). -/
def State.raiseUD (s : State) : State := s.deliver (.fault 6#8)

/-- The outcome `SoftInt(v)` of an instruction of length `len`: `EIP` at the next instruction, then the request
is delivered (46_io_interrupt R1010). -/
def State.softInt (len : Nat) (v : BitVec 8) (s : State) : State := (s.advance len).deliver (.softInt v)

end Sys2Proof.Machine
end

