-- ==== Sys2Proof/Machine/AluBinary.lean ====
section
/-!
DEFINITION. ADD, OR, ADC, SBB, AND, SUB, XOR, CMP and TEST (41_alu_binary R500-R519), with their alias rows
(30_encoding R371).
-/
namespace Sys2Proof.Machine

/-- The eight classic operations (30_encoding R355). -/
inductive BinOp where
  | add
  | or
  | adc
  | sbb
  | and
  | sub
  | xor
  | cmp
deriving DecidableEq, Repr

/-- Whether an operation reads CF as an input (41_alu_binary R512, R513; 40_flag_engine R441). -/
def BinOp.readsCarry : BinOp → Bool
  | .adc => true
  | .sbb => true
  | .add => false
  | .or => false
  | .and => false
  | .sub => false
  | .xor => false
  | .cmp => false

/-- Whether an operation stores its result: all but CMP (41_alu_binary R501). -/
def BinOp.stores : BinOp → Bool
  | .cmp => false
  | .add => true
  | .or => true
  | .adc => true
  | .sbb => true
  | .and => true
  | .sub => true
  | .xor => true

/-- The result `r` of an operation on `a`, `b` and the carry-in `c` (41_alu_binary R510-R517). -/
def BinOp.result (op : BinOp) (w : Width) (a b : BitVec w.bits) (c : Bool) : BitVec w.bits :=
  match op with
  | .add => a + b
  | .or => a ||| b
  | .adc => a + b + BitVec.ofNat w.bits (bitNat c)
  | .sbb => a - b - BitVec.ofNat w.bits (bitNat c)
  | .and => a &&& b
  | .sub => a - b
  | .xor => a ^^^ b
  | .cmp => a - b

/-- The flag actions of a tag for CF, AF and OF and of the result for SF, ZF and PF (41_alu_binary R510). -/
def tagActions (w : Width) (t : Tag) (r : BitVec w.bits) : FlagActions :=
  resultActions w r (.lazy t) (.lazy t) (.lazy t)

/-- The flag actions of a logic operation: CF and OF false, AF undefined (41_alu_binary R511). -/
def logicActions (w : Width) (r : BitVec w.bits) : FlagActions :=
  resultActions w r (.explicit false) .undef (.explicit false)

/-- The flag actions of an operation (41_alu_binary R510-R517). -/
def BinOp.actions (op : BinOp) (w : Width) (a b : BitVec w.bits) (c : Bool) : FlagActions :=
  match op with
  | .add => tagActions w (.add w a b) (op.result w a b c)
  | .or => logicActions w (op.result w a b c)
  | .adc => tagActions w (.adc w a b c) (op.result w a b c)
  | .sbb => tagActions w (.sbb w a b c) (op.result w a b c)
  | .and => logicActions w (op.result w a b c)
  | .sub => tagActions w (.sub w a b) (op.result w a b c)
  | .xor => logicActions w (op.result w a b c)
  | .cmp => tagActions w (.sub w a b) (op.result w a b c)

/-- The carry-in of an operation, read through the engine where the operation takes one (40_flag_engine R441). -/
def State.carryIn (op : BinOp) (s : State) : Bool × State :=
  if op.readsCarry then s.readFlag .cf else (false, s)

/-- `exec_binary` (41_alu_binary R501): load the destination, load the source, operate, store unless CMP, write
the flags, advance. A memory destination is read and written at one linear address. -/
def State.binary (op : BinOp) (w : Width) (h : Head) (d : Dest) (x : Operand) (s : State) : State :=
  let l := s.loadAddress w h d
  let a := l.2.loadLoc w l.1
  let b := a.2.loadValue w h x
  let c := b.2.carryIn op
  let r := op.result w a.1 b.1 c.1
  let t := if op.stores then c.2.storeLoc w l.1 r else c.2
  (t.writeFlags (op.actions w a.1 b.1 c.1)).advance h.len

/-- TEST (41_alu_binary R518): load both operands, AND, write the flags, advance; nothing is stored. -/
def State.test (w : Width) (h : Head) (x y : Operand) (s : State) : State :=
  let a := s.loadValue w h x
  let b := a.2.loadValue w h y
  (b.2.writeFlags (logicActions w (a.1 &&& b.1))).advance h.len

/-- An alias row under either policy (30_encoding R371): as its twin, or `#UD`. -/
def State.aliased {α : Type} (a : Aliased α) (twin : α → State → State) (s : State) : State :=
  match a with
  | .twin ops => twin ops s
  | .undefinedOpcode _ => s.raiseUD

/-- `ADD Eb, Gb` (41_alu_binary R510). -/
def execAddEbGb (h : Head) (r : Reg) (e : EOperand) (s : State) : Host.Outcome State Fault Refusal :=
  .next (s.binary .add .byte h (.memory e) (.register r))

/-- `ADD Ev, Gv` (41_alu_binary R510). -/
def execAddEvGv (h : Head) (r : Reg) (e : EOperand) (s : State) : Host.Outcome State Fault Refusal :=
  .next (s.binary .add h.opSize.width h (.memory e) (.register r))

/-- `ADD Gb, Eb` (41_alu_binary R510). -/
def execAddGbEb (h : Head) (r : Reg) (e : EOperand) (s : State) : Host.Outcome State Fault Refusal :=
  .next (s.binary .add .byte h (.register r) (.memory e))

/-- `ADD Gv, Ev` (41_alu_binary R510). -/
def execAddGvEv (h : Head) (r : Reg) (e : EOperand) (s : State) : Host.Outcome State Fault Refusal :=
  .next (s.binary .add h.opSize.width h (.register r) (.memory e))

/-- `ADD AL, Ib` (41_alu_binary R510). -/
def execAddALIb (h : Head) (v : BitVec 8) (s : State) : Host.Outcome State Fault Refusal :=
  .next (s.binary .add .byte h (.fixed .ax) (.imm8 v false))

/-- `ADD eAX, Iz` (41_alu_binary R510). -/
def execAddEAXIz (h : Head) (v : BitVec 32) (s : State) : Host.Outcome State Fault Refusal :=
  .next (s.binary .add h.opSize.width h (.fixed .ax) (.immZ v false))

/-- `OR Eb, Gb` (41_alu_binary R511). -/
def execOrEbGb (h : Head) (r : Reg) (e : EOperand) (s : State) : Host.Outcome State Fault Refusal :=
  .next (s.binary .or .byte h (.memory e) (.register r))

/-- `OR Ev, Gv` (41_alu_binary R511). -/
def execOrEvGv (h : Head) (r : Reg) (e : EOperand) (s : State) : Host.Outcome State Fault Refusal :=
  .next (s.binary .or h.opSize.width h (.memory e) (.register r))

/-- `OR Gb, Eb` (41_alu_binary R511). -/
def execOrGbEb (h : Head) (r : Reg) (e : EOperand) (s : State) : Host.Outcome State Fault Refusal :=
  .next (s.binary .or .byte h (.register r) (.memory e))

/-- `OR Gv, Ev` (41_alu_binary R511). -/
def execOrGvEv (h : Head) (r : Reg) (e : EOperand) (s : State) : Host.Outcome State Fault Refusal :=
  .next (s.binary .or h.opSize.width h (.register r) (.memory e))

/-- `OR AL, Ib` (41_alu_binary R511). -/
def execOrALIb (h : Head) (v : BitVec 8) (s : State) : Host.Outcome State Fault Refusal :=
  .next (s.binary .or .byte h (.fixed .ax) (.imm8 v false))

/-- `OR eAX, Iz` (41_alu_binary R511). -/
def execOrEAXIz (h : Head) (v : BitVec 32) (s : State) : Host.Outcome State Fault Refusal :=
  .next (s.binary .or h.opSize.width h (.fixed .ax) (.immZ v false))

/-- `ADC Eb, Gb` (41_alu_binary R512). -/
def execAdcEbGb (h : Head) (r : Reg) (e : EOperand) (s : State) : Host.Outcome State Fault Refusal :=
  .next (s.binary .adc .byte h (.memory e) (.register r))

/-- `ADC Ev, Gv` (41_alu_binary R512). -/
def execAdcEvGv (h : Head) (r : Reg) (e : EOperand) (s : State) : Host.Outcome State Fault Refusal :=
  .next (s.binary .adc h.opSize.width h (.memory e) (.register r))

/-- `ADC Gb, Eb` (41_alu_binary R512). -/
def execAdcGbEb (h : Head) (r : Reg) (e : EOperand) (s : State) : Host.Outcome State Fault Refusal :=
  .next (s.binary .adc .byte h (.register r) (.memory e))

/-- `ADC Gv, Ev` (41_alu_binary R512). -/
def execAdcGvEv (h : Head) (r : Reg) (e : EOperand) (s : State) : Host.Outcome State Fault Refusal :=
  .next (s.binary .adc h.opSize.width h (.register r) (.memory e))

/-- `ADC AL, Ib` (41_alu_binary R512). -/
def execAdcALIb (h : Head) (v : BitVec 8) (s : State) : Host.Outcome State Fault Refusal :=
  .next (s.binary .adc .byte h (.fixed .ax) (.imm8 v false))

/-- `ADC eAX, Iz` (41_alu_binary R512). -/
def execAdcEAXIz (h : Head) (v : BitVec 32) (s : State) : Host.Outcome State Fault Refusal :=
  .next (s.binary .adc h.opSize.width h (.fixed .ax) (.immZ v false))

/-- `SBB Eb, Gb` (41_alu_binary R513). -/
def execSbbEbGb (h : Head) (r : Reg) (e : EOperand) (s : State) : Host.Outcome State Fault Refusal :=
  .next (s.binary .sbb .byte h (.memory e) (.register r))

/-- `SBB Ev, Gv` (41_alu_binary R513). -/
def execSbbEvGv (h : Head) (r : Reg) (e : EOperand) (s : State) : Host.Outcome State Fault Refusal :=
  .next (s.binary .sbb h.opSize.width h (.memory e) (.register r))

/-- `SBB Gb, Eb` (41_alu_binary R513). -/
def execSbbGbEb (h : Head) (r : Reg) (e : EOperand) (s : State) : Host.Outcome State Fault Refusal :=
  .next (s.binary .sbb .byte h (.register r) (.memory e))

/-- `SBB Gv, Ev` (41_alu_binary R513). -/
def execSbbGvEv (h : Head) (r : Reg) (e : EOperand) (s : State) : Host.Outcome State Fault Refusal :=
  .next (s.binary .sbb h.opSize.width h (.register r) (.memory e))

/-- `SBB AL, Ib` (41_alu_binary R513). -/
def execSbbALIb (h : Head) (v : BitVec 8) (s : State) : Host.Outcome State Fault Refusal :=
  .next (s.binary .sbb .byte h (.fixed .ax) (.imm8 v false))

/-- `SBB eAX, Iz` (41_alu_binary R513). -/
def execSbbEAXIz (h : Head) (v : BitVec 32) (s : State) : Host.Outcome State Fault Refusal :=
  .next (s.binary .sbb h.opSize.width h (.fixed .ax) (.immZ v false))

/-- `AND Eb, Gb` (41_alu_binary R514). -/
def execAndEbGb (h : Head) (r : Reg) (e : EOperand) (s : State) : Host.Outcome State Fault Refusal :=
  .next (s.binary .and .byte h (.memory e) (.register r))

/-- `AND Ev, Gv` (41_alu_binary R514). -/
def execAndEvGv (h : Head) (r : Reg) (e : EOperand) (s : State) : Host.Outcome State Fault Refusal :=
  .next (s.binary .and h.opSize.width h (.memory e) (.register r))

/-- `AND Gb, Eb` (41_alu_binary R514). -/
def execAndGbEb (h : Head) (r : Reg) (e : EOperand) (s : State) : Host.Outcome State Fault Refusal :=
  .next (s.binary .and .byte h (.register r) (.memory e))

/-- `AND Gv, Ev` (41_alu_binary R514). -/
def execAndGvEv (h : Head) (r : Reg) (e : EOperand) (s : State) : Host.Outcome State Fault Refusal :=
  .next (s.binary .and h.opSize.width h (.register r) (.memory e))

/-- `AND AL, Ib` (41_alu_binary R514). -/
def execAndALIb (h : Head) (v : BitVec 8) (s : State) : Host.Outcome State Fault Refusal :=
  .next (s.binary .and .byte h (.fixed .ax) (.imm8 v false))

/-- `AND eAX, Iz` (41_alu_binary R514). -/
def execAndEAXIz (h : Head) (v : BitVec 32) (s : State) : Host.Outcome State Fault Refusal :=
  .next (s.binary .and h.opSize.width h (.fixed .ax) (.immZ v false))

/-- `SUB Eb, Gb` (41_alu_binary R515). -/
def execSubEbGb (h : Head) (r : Reg) (e : EOperand) (s : State) : Host.Outcome State Fault Refusal :=
  .next (s.binary .sub .byte h (.memory e) (.register r))

/-- `SUB Ev, Gv` (41_alu_binary R515). -/
def execSubEvGv (h : Head) (r : Reg) (e : EOperand) (s : State) : Host.Outcome State Fault Refusal :=
  .next (s.binary .sub h.opSize.width h (.memory e) (.register r))

/-- `SUB Gb, Eb` (41_alu_binary R515). -/
def execSubGbEb (h : Head) (r : Reg) (e : EOperand) (s : State) : Host.Outcome State Fault Refusal :=
  .next (s.binary .sub .byte h (.register r) (.memory e))

/-- `SUB Gv, Ev` (41_alu_binary R515). -/
def execSubGvEv (h : Head) (r : Reg) (e : EOperand) (s : State) : Host.Outcome State Fault Refusal :=
  .next (s.binary .sub h.opSize.width h (.register r) (.memory e))

/-- `SUB AL, Ib` (41_alu_binary R515). -/
def execSubALIb (h : Head) (v : BitVec 8) (s : State) : Host.Outcome State Fault Refusal :=
  .next (s.binary .sub .byte h (.fixed .ax) (.imm8 v false))

/-- `SUB eAX, Iz` (41_alu_binary R515). -/
def execSubEAXIz (h : Head) (v : BitVec 32) (s : State) : Host.Outcome State Fault Refusal :=
  .next (s.binary .sub h.opSize.width h (.fixed .ax) (.immZ v false))

/-- `XOR Eb, Gb` (41_alu_binary R516). -/
def execXorEbGb (h : Head) (r : Reg) (e : EOperand) (s : State) : Host.Outcome State Fault Refusal :=
  .next (s.binary .xor .byte h (.memory e) (.register r))

/-- `XOR Ev, Gv` (41_alu_binary R516). -/
def execXorEvGv (h : Head) (r : Reg) (e : EOperand) (s : State) : Host.Outcome State Fault Refusal :=
  .next (s.binary .xor h.opSize.width h (.memory e) (.register r))

/-- `XOR Gb, Eb` (41_alu_binary R516). -/
def execXorGbEb (h : Head) (r : Reg) (e : EOperand) (s : State) : Host.Outcome State Fault Refusal :=
  .next (s.binary .xor .byte h (.register r) (.memory e))

/-- `XOR Gv, Ev` (41_alu_binary R516). -/
def execXorGvEv (h : Head) (r : Reg) (e : EOperand) (s : State) : Host.Outcome State Fault Refusal :=
  .next (s.binary .xor h.opSize.width h (.register r) (.memory e))

/-- `XOR AL, Ib` (41_alu_binary R516). -/
def execXorALIb (h : Head) (v : BitVec 8) (s : State) : Host.Outcome State Fault Refusal :=
  .next (s.binary .xor .byte h (.fixed .ax) (.imm8 v false))

/-- `XOR eAX, Iz` (41_alu_binary R516). -/
def execXorEAXIz (h : Head) (v : BitVec 32) (s : State) : Host.Outcome State Fault Refusal :=
  .next (s.binary .xor h.opSize.width h (.fixed .ax) (.immZ v false))

/-- `CMP Eb, Gb` (41_alu_binary R517). -/
def execCmpEbGb (h : Head) (r : Reg) (e : EOperand) (s : State) : Host.Outcome State Fault Refusal :=
  .next (s.binary .cmp .byte h (.memory e) (.register r))

/-- `CMP Ev, Gv` (41_alu_binary R517). -/
def execCmpEvGv (h : Head) (r : Reg) (e : EOperand) (s : State) : Host.Outcome State Fault Refusal :=
  .next (s.binary .cmp h.opSize.width h (.memory e) (.register r))

/-- `CMP Gb, Eb` (41_alu_binary R517). -/
def execCmpGbEb (h : Head) (r : Reg) (e : EOperand) (s : State) : Host.Outcome State Fault Refusal :=
  .next (s.binary .cmp .byte h (.register r) (.memory e))

/-- `CMP Gv, Ev` (41_alu_binary R517). -/
def execCmpGvEv (h : Head) (r : Reg) (e : EOperand) (s : State) : Host.Outcome State Fault Refusal :=
  .next (s.binary .cmp h.opSize.width h (.register r) (.memory e))

/-- `CMP AL, Ib` (41_alu_binary R517). -/
def execCmpALIb (h : Head) (v : BitVec 8) (s : State) : Host.Outcome State Fault Refusal :=
  .next (s.binary .cmp .byte h (.fixed .ax) (.imm8 v false))

/-- `CMP eAX, Iz` (41_alu_binary R517). -/
def execCmpEAXIz (h : Head) (v : BitVec 32) (s : State) : Host.Outcome State Fault Refusal :=
  .next (s.binary .cmp h.opSize.width h (.fixed .ax) (.immZ v false))

/-- `ADD Eb, Ib` (41_alu_binary R510). -/
def execAddEbIb (h : Head) (e : EOperand) (v : BitVec 8) (s : State) : Host.Outcome State Fault Refusal :=
  .next (s.binary .add .byte h (.memory e) (.imm8 v false))

/-- `OR Eb, Ib` (41_alu_binary R511). -/
def execOrEbIb (h : Head) (e : EOperand) (v : BitVec 8) (s : State) : Host.Outcome State Fault Refusal :=
  .next (s.binary .or .byte h (.memory e) (.imm8 v false))

/-- `ADC Eb, Ib` (41_alu_binary R512). -/
def execAdcEbIb (h : Head) (e : EOperand) (v : BitVec 8) (s : State) : Host.Outcome State Fault Refusal :=
  .next (s.binary .adc .byte h (.memory e) (.imm8 v false))

/-- `SBB Eb, Ib` (41_alu_binary R513). -/
def execSbbEbIb (h : Head) (e : EOperand) (v : BitVec 8) (s : State) : Host.Outcome State Fault Refusal :=
  .next (s.binary .sbb .byte h (.memory e) (.imm8 v false))

/-- `AND Eb, Ib` (41_alu_binary R514). -/
def execAndEbIb (h : Head) (e : EOperand) (v : BitVec 8) (s : State) : Host.Outcome State Fault Refusal :=
  .next (s.binary .and .byte h (.memory e) (.imm8 v false))

/-- `SUB Eb, Ib` (41_alu_binary R515). -/
def execSubEbIb (h : Head) (e : EOperand) (v : BitVec 8) (s : State) : Host.Outcome State Fault Refusal :=
  .next (s.binary .sub .byte h (.memory e) (.imm8 v false))

/-- `XOR Eb, Ib` (41_alu_binary R516). -/
def execXorEbIb (h : Head) (e : EOperand) (v : BitVec 8) (s : State) : Host.Outcome State Fault Refusal :=
  .next (s.binary .xor .byte h (.memory e) (.imm8 v false))

/-- `CMP Eb, Ib` (41_alu_binary R517). -/
def execCmpEbIb (h : Head) (e : EOperand) (v : BitVec 8) (s : State) : Host.Outcome State Fault Refusal :=
  .next (s.binary .cmp .byte h (.memory e) (.imm8 v false))

/-- `ADD Ev, Iz` (41_alu_binary R510). -/
def execAddEvIz (h : Head) (e : EOperand) (v : BitVec 32) (s : State) : Host.Outcome State Fault Refusal :=
  .next (s.binary .add h.opSize.width h (.memory e) (.immZ v false))

/-- `OR Ev, Iz` (41_alu_binary R511). -/
def execOrEvIz (h : Head) (e : EOperand) (v : BitVec 32) (s : State) : Host.Outcome State Fault Refusal :=
  .next (s.binary .or h.opSize.width h (.memory e) (.immZ v false))

/-- `ADC Ev, Iz` (41_alu_binary R512). -/
def execAdcEvIz (h : Head) (e : EOperand) (v : BitVec 32) (s : State) : Host.Outcome State Fault Refusal :=
  .next (s.binary .adc h.opSize.width h (.memory e) (.immZ v false))

/-- `SBB Ev, Iz` (41_alu_binary R513). -/
def execSbbEvIz (h : Head) (e : EOperand) (v : BitVec 32) (s : State) : Host.Outcome State Fault Refusal :=
  .next (s.binary .sbb h.opSize.width h (.memory e) (.immZ v false))

/-- `AND Ev, Iz` (41_alu_binary R514). -/
def execAndEvIz (h : Head) (e : EOperand) (v : BitVec 32) (s : State) : Host.Outcome State Fault Refusal :=
  .next (s.binary .and h.opSize.width h (.memory e) (.immZ v false))

/-- `SUB Ev, Iz` (41_alu_binary R515). -/
def execSubEvIz (h : Head) (e : EOperand) (v : BitVec 32) (s : State) : Host.Outcome State Fault Refusal :=
  .next (s.binary .sub h.opSize.width h (.memory e) (.immZ v false))

/-- `XOR Ev, Iz` (41_alu_binary R516). -/
def execXorEvIz (h : Head) (e : EOperand) (v : BitVec 32) (s : State) : Host.Outcome State Fault Refusal :=
  .next (s.binary .xor h.opSize.width h (.memory e) (.immZ v false))

/-- `CMP Ev, Iz` (41_alu_binary R517). -/
def execCmpEvIz (h : Head) (e : EOperand) (v : BitVec 32) (s : State) : Host.Outcome State Fault Refusal :=
  .next (s.binary .cmp h.opSize.width h (.memory e) (.immZ v false))

/-- `ADD Ev, Ib` (41_alu_binary R510). -/
def execAddEvIb (h : Head) (e : EOperand) (v : BitVec 8) (s : State) : Host.Outcome State Fault Refusal :=
  .next (s.binary .add h.opSize.width h (.memory e) (.imm8 v true))

/-- `OR Ev, Ib` (41_alu_binary R511). -/
def execOrEvIb (h : Head) (e : EOperand) (v : BitVec 8) (s : State) : Host.Outcome State Fault Refusal :=
  .next (s.binary .or h.opSize.width h (.memory e) (.imm8 v true))

/-- `ADC Ev, Ib` (41_alu_binary R512). -/
def execAdcEvIb (h : Head) (e : EOperand) (v : BitVec 8) (s : State) : Host.Outcome State Fault Refusal :=
  .next (s.binary .adc h.opSize.width h (.memory e) (.imm8 v true))

/-- `SBB Ev, Ib` (41_alu_binary R513). -/
def execSbbEvIb (h : Head) (e : EOperand) (v : BitVec 8) (s : State) : Host.Outcome State Fault Refusal :=
  .next (s.binary .sbb h.opSize.width h (.memory e) (.imm8 v true))

/-- `AND Ev, Ib` (41_alu_binary R514). -/
def execAndEvIb (h : Head) (e : EOperand) (v : BitVec 8) (s : State) : Host.Outcome State Fault Refusal :=
  .next (s.binary .and h.opSize.width h (.memory e) (.imm8 v true))

/-- `SUB Ev, Ib` (41_alu_binary R515). -/
def execSubEvIb (h : Head) (e : EOperand) (v : BitVec 8) (s : State) : Host.Outcome State Fault Refusal :=
  .next (s.binary .sub h.opSize.width h (.memory e) (.imm8 v true))

/-- `XOR Ev, Ib` (41_alu_binary R516). -/
def execXorEvIb (h : Head) (e : EOperand) (v : BitVec 8) (s : State) : Host.Outcome State Fault Refusal :=
  .next (s.binary .xor h.opSize.width h (.memory e) (.imm8 v true))

/-- `CMP Ev, Ib` (41_alu_binary R517). -/
def execCmpEvIb (h : Head) (e : EOperand) (v : BitVec 8) (s : State) : Host.Outcome State Fault Refusal :=
  .next (s.binary .cmp h.opSize.width h (.memory e) (.imm8 v true))

/-- `ADD Eb, Ib (82 alias of 80 /0)` (30_encoding R371). -/
def execAddEbIb82 (h : Head) (a : Aliased (EOperand × BitVec 8)) (s : State) :
    Host.Outcome State Fault Refusal :=
  .next (s.aliased a fun ops => State.binary .add .byte h (.memory ops.1) (.imm8 ops.2 false))

/-- `OR Eb, Ib (82 alias of 80 /1)` (30_encoding R371). -/
def execOrEbIb82 (h : Head) (a : Aliased (EOperand × BitVec 8)) (s : State) :
    Host.Outcome State Fault Refusal :=
  .next (s.aliased a fun ops => State.binary .or .byte h (.memory ops.1) (.imm8 ops.2 false))

/-- `ADC Eb, Ib (82 alias of 80 /2)` (30_encoding R371). -/
def execAdcEbIb82 (h : Head) (a : Aliased (EOperand × BitVec 8)) (s : State) :
    Host.Outcome State Fault Refusal :=
  .next (s.aliased a fun ops => State.binary .adc .byte h (.memory ops.1) (.imm8 ops.2 false))

/-- `SBB Eb, Ib (82 alias of 80 /3)` (30_encoding R371). -/
def execSbbEbIb82 (h : Head) (a : Aliased (EOperand × BitVec 8)) (s : State) :
    Host.Outcome State Fault Refusal :=
  .next (s.aliased a fun ops => State.binary .sbb .byte h (.memory ops.1) (.imm8 ops.2 false))

/-- `AND Eb, Ib (82 alias of 80 /4)` (30_encoding R371). -/
def execAndEbIb82 (h : Head) (a : Aliased (EOperand × BitVec 8)) (s : State) :
    Host.Outcome State Fault Refusal :=
  .next (s.aliased a fun ops => State.binary .and .byte h (.memory ops.1) (.imm8 ops.2 false))

/-- `SUB Eb, Ib (82 alias of 80 /5)` (30_encoding R371). -/
def execSubEbIb82 (h : Head) (a : Aliased (EOperand × BitVec 8)) (s : State) :
    Host.Outcome State Fault Refusal :=
  .next (s.aliased a fun ops => State.binary .sub .byte h (.memory ops.1) (.imm8 ops.2 false))

/-- `XOR Eb, Ib (82 alias of 80 /6)` (30_encoding R371). -/
def execXorEbIb82 (h : Head) (a : Aliased (EOperand × BitVec 8)) (s : State) :
    Host.Outcome State Fault Refusal :=
  .next (s.aliased a fun ops => State.binary .xor .byte h (.memory ops.1) (.imm8 ops.2 false))

/-- `CMP Eb, Ib (82 alias of 80 /7)` (30_encoding R371). -/
def execCmpEbIb82 (h : Head) (a : Aliased (EOperand × BitVec 8)) (s : State) :
    Host.Outcome State Fault Refusal :=
  .next (s.aliased a fun ops => State.binary .cmp .byte h (.memory ops.1) (.imm8 ops.2 false))

/-- `TEST Eb, Gb` (41_alu_binary R518). -/
def execTestEbGb (h : Head) (r : Reg) (e : EOperand) (s : State) : Host.Outcome State Fault Refusal :=
  .next (s.test .byte h (.memory e) (.register r))

/-- `TEST Ev, Gv` (41_alu_binary R518). -/
def execTestEvGv (h : Head) (r : Reg) (e : EOperand) (s : State) : Host.Outcome State Fault Refusal :=
  .next (s.test h.opSize.width h (.memory e) (.register r))

/-- `TEST AL, Ib` (41_alu_binary R518). -/
def execTestALIb (h : Head) (v : BitVec 8) (s : State) : Host.Outcome State Fault Refusal :=
  .next (s.test .byte h (.fixed .ax) (.imm8 v false))

/-- `TEST eAX, Iz` (41_alu_binary R518). -/
def execTestEAXIz (h : Head) (v : BitVec 32) (s : State) : Host.Outcome State Fault Refusal :=
  .next (s.test h.opSize.width h (.fixed .ax) (.immZ v false))

/-- `TEST Eb, Ib` (41_alu_binary R518). -/
def execTestEbIb (h : Head) (e : EOperand) (v : BitVec 8) (s : State) : Host.Outcome State Fault Refusal :=
  .next (s.test .byte h (.memory e) (.imm8 v false))

/-- `TEST Eb, Ib (/1 alias of /0)` (30_encoding R371). -/
def execTestEbIbSlash1 (h : Head) (a : Aliased (EOperand × BitVec 8)) (s : State) :
    Host.Outcome State Fault Refusal :=
  .next (s.aliased a fun ops => State.test .byte h (.memory ops.1) (.imm8 ops.2 false))

/-- `TEST Ev, Iz` (41_alu_binary R518). -/
def execTestEvIz (h : Head) (e : EOperand) (v : BitVec 32) (s : State) : Host.Outcome State Fault Refusal :=
  .next (s.test h.opSize.width h (.memory e) (.immZ v false))

/-- `TEST Ev, Iz (/1 alias of /0)` (30_encoding R371). -/
def execTestEvIzSlash1 (h : Head) (a : Aliased (EOperand × BitVec 32)) (s : State) :
    Host.Outcome State Fault Refusal :=
  .next (s.aliased a fun ops => State.test h.opSize.width h (.memory ops.1) (.immZ ops.2 false))

end Sys2Proof.Machine
end

