-- ==== Sys2Proof/Machine/AluUnary.lean ====
section
/-!
DEFINITION. INC, DEC, NEG and NOT (42_alu_unary R600-R613).
-/
namespace Sys2Proof.Machine

/-- The four unary operations. -/
inductive UnOp where
  | inc
  | dec
  | neg
  | not
deriving DecidableEq, Repr

/-- The result `r` of an operation on `a` (42_alu_unary R610-R613). -/
def UnOp.result (op : UnOp) (w : Width) (a : BitVec w.bits) : BitVec w.bits :=
  match op with
  | .inc => a + 1#w.bits
  | .dec => a - 1#w.bits
  | .neg => 0#w.bits - a
  | .not => ~~~a

/-- The flag actions of an operation (42_alu_unary R610-R613): INC and DEC keep CF, NOT keeps every flag. -/
def UnOp.actions (op : UnOp) (w : Width) (a : BitVec w.bits) : FlagActions :=
  match op with
  | .inc => resultActions w (op.result w a) .keep (.lazy (.add w a 1#w.bits)) (.lazy (.add w a 1#w.bits))
  | .dec => resultActions w (op.result w a) .keep (.lazy (.sub w a 1#w.bits)) (.lazy (.sub w a 1#w.bits))
  | .neg => tagActions w (.sub w 0#w.bits a) (op.result w a)
  | .not => {}

/-- Load the operand, operate, store at the same location, write the flags, advance (42_alu_unary R600, R610). -/
def State.unary (op : UnOp) (w : Width) (h : Head) (d : Dest) (s : State) : State :=
  let l := s.loadAddress w h d
  let a := l.2.loadLoc w l.1
  ((a.2.storeLoc w l.1 (op.result w a.1)).writeFlags (op.actions w a.1)).advance h.len

/-- `INC Zv` (42_alu_unary R610). Its operand is requested as a `Register` shape (DESIGN CHOICE, log 31). -/
def execIncZv (h : Head) (r : Reg) (s : State) : Host.Outcome State Fault Refusal :=
  .next (s.unary .inc h.opSize.width h (.register r))

/-- `DEC Zv` (42_alu_unary R611). Its operand is requested as a `Register` shape (DESIGN CHOICE, log 31). -/
def execDecZv (h : Head) (r : Reg) (s : State) : Host.Outcome State Fault Refusal :=
  .next (s.unary .dec h.opSize.width h (.register r))

/-- `NOT Eb` (42_alu_unary R613). -/
def execNotEb (h : Head) (e : EOperand) (s : State) : Host.Outcome State Fault Refusal :=
  .next (s.unary .not .byte h (.memory e))

/-- `NEG Eb` (42_alu_unary R612). -/
def execNegEb (h : Head) (e : EOperand) (s : State) : Host.Outcome State Fault Refusal :=
  .next (s.unary .neg .byte h (.memory e))

/-- `NOT Ev` (42_alu_unary R613). -/
def execNotEv (h : Head) (e : EOperand) (s : State) : Host.Outcome State Fault Refusal :=
  .next (s.unary .not h.opSize.width h (.memory e))

/-- `NEG Ev` (42_alu_unary R612). -/
def execNegEv (h : Head) (e : EOperand) (s : State) : Host.Outcome State Fault Refusal :=
  .next (s.unary .neg h.opSize.width h (.memory e))

/-- `INC Eb` (42_alu_unary R610). -/
def execIncEb (h : Head) (e : EOperand) (s : State) : Host.Outcome State Fault Refusal :=
  .next (s.unary .inc .byte h (.memory e))

/-- `DEC Eb` (42_alu_unary R611). -/
def execDecEb (h : Head) (e : EOperand) (s : State) : Host.Outcome State Fault Refusal :=
  .next (s.unary .dec .byte h (.memory e))

/-- `INC Ev` (42_alu_unary R610). -/
def execIncEv (h : Head) (e : EOperand) (s : State) : Host.Outcome State Fault Refusal :=
  .next (s.unary .inc h.opSize.width h (.memory e))

/-- `DEC Ev` (42_alu_unary R611). -/
def execDecEv (h : Head) (e : EOperand) (s : State) : Host.Outcome State Fault Refusal :=
  .next (s.unary .dec h.opSize.width h (.memory e))

end Sys2Proof.Machine
end

