-- ==== Sys2Proof/Machine/FlagInstr.lean ====
section
/-!
DEFINITION. CLC, STC, CMC, LAHF and SAHF (45_flag_consumers R900-R905).
-/
namespace Sys2Proof.Machine

/-- The byte LAHF loads (45_flag_consumers R904): SF ZF 0 AF 0 PF 1 CF. -/
def lahfByte (sf zf af pf cf : Bool) : BitVec 8 :=
  (BitVec.ofBool sf ++ BitVec.ofBool zf ++ 0#1 ++ BitVec.ofBool af ++ 0#1 ++ BitVec.ofBool pf ++ 1#1
    ++ BitVec.ofBool cf : BitVec (1 + 1 + 1 + 1 + 1 + 1 + 1 + 1))

/-- The flag actions of SAHF (45_flag_consumers R905): OF is kept. -/
def sahfActions (x : BitVec 8) : FlagActions :=
  { sf := .explicit (x.getLsbD 7)
    zf := .explicit (x.getLsbD 6)
    af := .explicit (x.getLsbD 4)
    pf := .explicit (x.getLsbD 2)
    cf := .explicit (x.getLsbD 0) }

/-- LAHF: five flag reads, then `AH`, its implicit destination (45_flag_consumers R904; log 31). -/
def State.lahf (h : Head) (s : State) : State :=
  let l := s.loadAddress .byte h (.fixed .sp)
  let sf := l.2.readFlag .sf
  let zf := sf.2.readFlag .zf
  let af := zf.2.readFlag .af
  let pf := af.2.readFlag .pf
  let cf := pf.2.readFlag .cf
  (cf.2.storeLoc .byte l.1 (lahfByte sf.1 zf.1 af.1 pf.1 cf.1)).advance h.len

/-- SAHF: `AH`, its implicit source, to five flags (45_flag_consumers R905; log 31). -/
def State.sahf (h : Head) (s : State) : State :=
  let x := s.loadValue .byte h (.fixed .sp)
  (x.2.writeFlags (sahfActions x.1)).advance h.len

/-- CLC (45_flag_consumers R901). -/
def execClc (h : Head) (s : State) : Host.Outcome State Fault Refusal :=
  .next ((s.writeFlags { cf := .explicit false }).advance h.len)

/-- STC (45_flag_consumers R902). -/
def execStc (h : Head) (s : State) : Host.Outcome State Fault Refusal :=
  .next ((s.writeFlags { cf := .explicit true }).advance h.len)

/-- CMC (45_flag_consumers R903). -/
def execCmc (h : Head) (s : State) : Host.Outcome State Fault Refusal :=
  .next (((s.readFlag .cf).2.writeFlags { cf := .explicit (!(s.readFlag .cf).1) }).advance h.len)

/-- LAHF (45_flag_consumers R904). -/
def execLahf (h : Head) (s : State) : Host.Outcome State Fault Refusal :=
  .next (s.lahf h)

/-- SAHF (45_flag_consumers R905). -/
def execSahf (h : Head) (s : State) : Host.Outcome State Fault Refusal :=
  .next (s.sahf h)

end Sys2Proof.Machine
end

