-- ==== Sys2Proof/Machine/Jcc.lean ====
section
/-!
DEFINITION. The conditional jumps (45_flag_consumers R920, R921, R930-R945, R970).
-/
namespace Sys2Proof.Machine

/-- The target of a jump (45_flag_consumers R920): `ipwrap(trunc_opSize(EIP + len + sx(rel)))`. -/
def State.jumpTarget (h : Head) (rel : Dword) (s : State) : Dword :=
  s.ipwrap (truncTo h.opSize (s.eip + BitVec.ofNat 32 h.len + rel))

/-- `exec_jcc` (45_flag_consumers R921); `rel` is the sign-extended offset. -/
def State.jumpIf (c : Cond) (h : Head) (rel : Dword) (s : State) : State :=
  let x := s.readCond c
  if x.1 then x.2.setEip (x.2.jumpTarget h rel) else x.2.advance h.len

/-- A short jump: the offset is a `Jb` (30_encoding R333, R342, R364). -/
def State.jumpShort (c : Cond) (h : Head) (v : BitVec 8) (s : State) : State :=
  let rel := s.loadValue .dword h (.imm8 v true)
  rel.2.jumpIf c h rel.1

/-- A near jump: the offset is a `Jz` of the operand size (30_encoding R333, R342, R364), sign-extended. -/
def State.jumpNear (c : Cond) (h : Head) (v : BitVec 32) (s : State) : State :=
  let rel := s.loadValue h.opSize.width h (.immZ v true)
  rel.2.jumpIf c h (rel.1.signExtend 32)

/-- `JO Jb` (45_flag_consumers R930). -/
def execJoJb (h : Head) (v : BitVec 8) (s : State) : Host.Outcome State Fault Refusal :=
  .next (s.jumpShort .o h v)

/-- `JNO Jb` (45_flag_consumers R931). -/
def execJnoJb (h : Head) (v : BitVec 8) (s : State) : Host.Outcome State Fault Refusal :=
  .next (s.jumpShort .no h v)

/-- `JB Jb` (45_flag_consumers R932). -/
def execJbJb (h : Head) (v : BitVec 8) (s : State) : Host.Outcome State Fault Refusal :=
  .next (s.jumpShort .b h v)

/-- `JAE Jb` (45_flag_consumers R933). -/
def execJaeJb (h : Head) (v : BitVec 8) (s : State) : Host.Outcome State Fault Refusal :=
  .next (s.jumpShort .ae h v)

/-- `JE Jb` (45_flag_consumers R934). -/
def execJeJb (h : Head) (v : BitVec 8) (s : State) : Host.Outcome State Fault Refusal :=
  .next (s.jumpShort .e h v)

/-- `JNE Jb` (45_flag_consumers R935). -/
def execJneJb (h : Head) (v : BitVec 8) (s : State) : Host.Outcome State Fault Refusal :=
  .next (s.jumpShort .ne h v)

/-- `JBE Jb` (45_flag_consumers R936). -/
def execJbeJb (h : Head) (v : BitVec 8) (s : State) : Host.Outcome State Fault Refusal :=
  .next (s.jumpShort .be h v)

/-- `JA Jb` (45_flag_consumers R937). -/
def execJaJb (h : Head) (v : BitVec 8) (s : State) : Host.Outcome State Fault Refusal :=
  .next (s.jumpShort .a h v)

/-- `JS Jb` (45_flag_consumers R938). -/
def execJsJb (h : Head) (v : BitVec 8) (s : State) : Host.Outcome State Fault Refusal :=
  .next (s.jumpShort .s h v)

/-- `JNS Jb` (45_flag_consumers R939). -/
def execJnsJb (h : Head) (v : BitVec 8) (s : State) : Host.Outcome State Fault Refusal :=
  .next (s.jumpShort .ns h v)

/-- `JP Jb` (45_flag_consumers R940). -/
def execJpJb (h : Head) (v : BitVec 8) (s : State) : Host.Outcome State Fault Refusal :=
  .next (s.jumpShort .p h v)

/-- `JNP Jb` (45_flag_consumers R941). -/
def execJnpJb (h : Head) (v : BitVec 8) (s : State) : Host.Outcome State Fault Refusal :=
  .next (s.jumpShort .np h v)

/-- `JL Jb` (45_flag_consumers R942). -/
def execJlJb (h : Head) (v : BitVec 8) (s : State) : Host.Outcome State Fault Refusal :=
  .next (s.jumpShort .l h v)

/-- `JGE Jb` (45_flag_consumers R943). -/
def execJgeJb (h : Head) (v : BitVec 8) (s : State) : Host.Outcome State Fault Refusal :=
  .next (s.jumpShort .ge h v)

/-- `JLE Jb` (45_flag_consumers R944). -/
def execJleJb (h : Head) (v : BitVec 8) (s : State) : Host.Outcome State Fault Refusal :=
  .next (s.jumpShort .le h v)

/-- `JG Jb` (45_flag_consumers R945). -/
def execJgJb (h : Head) (v : BitVec 8) (s : State) : Host.Outcome State Fault Refusal :=
  .next (s.jumpShort .g h v)

/-- `JO Jz` (45_flag_consumers R930). -/
def execJoJz (h : Head) (v : BitVec 32) (s : State) : Host.Outcome State Fault Refusal :=
  .next (s.jumpNear .o h v)

/-- `JNO Jz` (45_flag_consumers R931). -/
def execJnoJz (h : Head) (v : BitVec 32) (s : State) : Host.Outcome State Fault Refusal :=
  .next (s.jumpNear .no h v)

/-- `JB Jz` (45_flag_consumers R932). -/
def execJbJz (h : Head) (v : BitVec 32) (s : State) : Host.Outcome State Fault Refusal :=
  .next (s.jumpNear .b h v)

/-- `JAE Jz` (45_flag_consumers R933). -/
def execJaeJz (h : Head) (v : BitVec 32) (s : State) : Host.Outcome State Fault Refusal :=
  .next (s.jumpNear .ae h v)

/-- `JE Jz` (45_flag_consumers R934). -/
def execJeJz (h : Head) (v : BitVec 32) (s : State) : Host.Outcome State Fault Refusal :=
  .next (s.jumpNear .e h v)

/-- `JNE Jz` (45_flag_consumers R935). -/
def execJneJz (h : Head) (v : BitVec 32) (s : State) : Host.Outcome State Fault Refusal :=
  .next (s.jumpNear .ne h v)

/-- `JBE Jz` (45_flag_consumers R936). -/
def execJbeJz (h : Head) (v : BitVec 32) (s : State) : Host.Outcome State Fault Refusal :=
  .next (s.jumpNear .be h v)

/-- `JA Jz` (45_flag_consumers R937). -/
def execJaJz (h : Head) (v : BitVec 32) (s : State) : Host.Outcome State Fault Refusal :=
  .next (s.jumpNear .a h v)

/-- `JS Jz` (45_flag_consumers R938). -/
def execJsJz (h : Head) (v : BitVec 32) (s : State) : Host.Outcome State Fault Refusal :=
  .next (s.jumpNear .s h v)

/-- `JNS Jz` (45_flag_consumers R939). -/
def execJnsJz (h : Head) (v : BitVec 32) (s : State) : Host.Outcome State Fault Refusal :=
  .next (s.jumpNear .ns h v)

/-- `JP Jz` (45_flag_consumers R940). -/
def execJpJz (h : Head) (v : BitVec 32) (s : State) : Host.Outcome State Fault Refusal :=
  .next (s.jumpNear .p h v)

/-- `JNP Jz` (45_flag_consumers R941). -/
def execJnpJz (h : Head) (v : BitVec 32) (s : State) : Host.Outcome State Fault Refusal :=
  .next (s.jumpNear .np h v)

/-- `JL Jz` (45_flag_consumers R942). -/
def execJlJz (h : Head) (v : BitVec 32) (s : State) : Host.Outcome State Fault Refusal :=
  .next (s.jumpNear .l h v)

/-- `JGE Jz` (45_flag_consumers R943). -/
def execJgeJz (h : Head) (v : BitVec 32) (s : State) : Host.Outcome State Fault Refusal :=
  .next (s.jumpNear .ge h v)

/-- `JLE Jz` (45_flag_consumers R944). -/
def execJleJz (h : Head) (v : BitVec 32) (s : State) : Host.Outcome State Fault Refusal :=
  .next (s.jumpNear .le h v)

/-- `JG Jz` (45_flag_consumers R945). -/
def execJgJz (h : Head) (v : BitVec 32) (s : State) : Host.Outcome State Fault Refusal :=
  .next (s.jumpNear .g h v)

end Sys2Proof.Machine
end

