-- ==== Sys2Proof/Machine/MulDiv.lean ====
section
/-!
DEFINITION. MUL, IMUL with one, two and three operands, DIV and IDIV (43_muldiv R700-R722).
-/
namespace Sys2Proof.Machine

/-- The register that holds the high half beside `AL`, `AX`, `EAX`: number 4 (`AH`) for bytes, number 2 (`DX`,
`EDX`) otherwise (43_muldiv R700). -/
def highHalf : Width → Reg
  | .byte => .sp
  | .word => .dx
  | .dword => .dx

/-- Write a double-width value: the low half to `AL`, `AX` or `EAX`, the high half to `AH`, `DX` or `EDX`
(43_muldiv R700, R710); for bytes this is `R16[0] <- hi:lo`. -/
def State.writePair (w : Width) (hi lo : BitVec w.bits) (s : State) : State :=
  (s.writeReg w .ax lo).writeReg w (highHalf w) hi

/-- Read the dividend `AX`, `DX:AX` or `EDX:EAX` (43_muldiv R720). -/
def State.readPair (w : Width) (s : State) : BitVec (w.bits + w.bits) :=
  s.readReg w (highHalf w) ++ s.readReg w .ax

/-- The high half of a double-width value. -/
def highOf (w : Width) (p : BitVec (w.bits + w.bits)) : BitVec w.bits := p.extractLsb' w.bits w.bits

/-- The low half of a double-width value. -/
def lowOf (w : Width) (p : BitVec (w.bits + w.bits)) : BitVec w.bits := p.extractLsb' 0 w.bits

/-- The flag actions of a multiply: CF and OF of the tag, the others undefined (43_muldiv R710). -/
def mulActions (t : Tag) : FlagActions :=
  { cf := .lazy t, of := .lazy t, af := .undef, sf := .undef, zf := .undef, pf := .undef }

/-- The implicit registers that hold a product or a dividend: `AX`, `DX:AX` or `EDX:EAX` (43_muldiv R700). -/
def productRegs : Width → List (Width × Reg)
  | .byte => [(.word, .ax)]
  | .word => [(.word, .ax), (.word, .dx)]
  | .dword => [(.dword, .ax), (.dword, .dx)]

/-- The implicit destinations of a division: the quotient's and the remainder's register (43_muldiv R700). -/
def quotientRegs (w : Width) : List (Width × Reg) := [(w, .ax), (w, highHalf w)]

/-- The operands of a one-operand form (43_muldiv R700, R701): the implicit destinations, the explicit operand, read
once, and the implicit sources, which are `Fixed` shapes (30_encoding R331). Their order, and the width at which a
double-width register pair is requested, are a DESIGN CHOICE (log 31). -/
def State.loadImplicit (w : Width) (h : Head) (e : EOperand) (dests sources : List (Width × Reg)) (s : State) :
    BitVec w.bits × State :=
  let b := (s.requestFixed h .readAddress dests).loadValue w h (.memory e)
  (b.1, b.2.requestFixed h .readValue sources)

/-- MUL (43_muldiv R710). -/
def State.mul (w : Width) (h : Head) (e : EOperand) (s : State) : State :=
  let b := s.loadImplicit w h e (productRegs w) [(w, .ax)]
  let a := b.2.readReg w .ax
  let p := BitVec.ofNat (w.bits + w.bits) (a.toNat * b.1.toNat)
  ((b.2.writePair w (highOf w p) (lowOf w p)).writeFlags (mulActions (.mul w a b.1))).advance h.len

/-- IMUL with one operand (43_muldiv R711). -/
def State.imul (w : Width) (h : Head) (e : EOperand) (s : State) : State :=
  let b := s.loadImplicit w h e (productRegs w) [(w, .ax)]
  let a := b.2.readReg w .ax
  let p := BitVec.ofInt (w.bits + w.bits) (a.toInt * b.1.toInt)
  ((b.2.writePair w (highOf w p) (lowOf w p)).writeFlags (mulActions (.imul w a b.1))).advance h.len

/-- IMUL with two operands (43_muldiv R712). -/
def State.imul2 (w : Width) (h : Head) (r : Reg) (e : EOperand) (s : State) : State :=
  let l := s.loadAddress w h (.register r)
  let a := l.2.loadLoc w l.1
  let b := a.2.loadValue w h (.memory e)
  ((b.2.storeLoc w l.1 (BitVec.ofInt w.bits (a.1.toInt * b.1.toInt))).writeFlags
    (mulActions (.imul23 w a.1 b.1))).advance h.len

/-- IMUL with three operands (43_muldiv R713): the old destination is not read. -/
def State.imul3 (w : Width) (h : Head) (r : Reg) (e : EOperand) (x : Operand) (s : State) : State :=
  let l := s.loadAddress w h (.register r)
  let b := l.2.loadValue w h (.memory e)
  let v := b.2.loadValue w h x
  ((v.2.storeLoc w l.1 (BitVec.ofInt w.bits (b.1.toInt * v.1.toInt))).writeFlags
    (mulActions (.imul23 w b.1 v.1))).advance h.len

/-- The quotient and the remainder of DIV; none where it raises `#DE` (43_muldiv R720). -/
def divide (w : Width) (dividend : BitVec (w.bits + w.bits)) (b : BitVec w.bits) :
    Option (BitVec w.bits × BitVec w.bits) :=
  if b.toNat = 0 then none
  else if 2 ^ w.bits ≤ dividend.toNat / b.toNat then none
  else
    some (BitVec.ofNat w.bits (dividend.toNat / b.toNat), BitVec.ofNat w.bits (dividend.toNat % b.toNat))

/-- The quotient and the remainder of IDIV; none where it raises `#DE` (43_muldiv R721). -/
def divideSigned (w : Width) (dividend : BitVec (w.bits + w.bits)) (b : BitVec w.bits) :
    Option (BitVec w.bits × BitVec w.bits) :=
  if b.toNat = 0 then none
  else if outsideSigned w.bits (dividend.toInt.tdiv b.toInt) then none
  else
    some (BitVec.ofInt w.bits (dividend.toInt.tdiv b.toInt), BitVec.ofInt w.bits (dividend.toInt.tmod b.toInt))

/-- DIV and IDIV from the divisor on (43_muldiv R701, R720-R722): `#DE` before any write, else the quotient to
`AL`, `AX` or `EAX`, the remainder to `AH`, `DX` or `EDX`, and every flag undefined. -/
def State.finishDivide (w : Width) (h : Head) (q : Option (BitVec w.bits × BitVec w.bits)) (s : State) : State :=
  match q with
  | none => s.raiseDE
  | some x => ((s.writePair w x.2 x.1).writeFlags allUndefined).advance h.len

/-- DIV (43_muldiv R720). -/
def State.div (w : Width) (h : Head) (e : EOperand) (s : State) : State :=
  let b := s.loadImplicit w h e (quotientRegs w) (productRegs w)
  b.2.finishDivide w h (divide w (b.2.readPair w) b.1)

/-- IDIV (43_muldiv R721). -/
def State.idiv (w : Width) (h : Head) (e : EOperand) (s : State) : State :=
  let b := s.loadImplicit w h e (quotientRegs w) (productRegs w)
  b.2.finishDivide w h (divideSigned w (b.2.readPair w) b.1)

/-- `MUL Eb` (43_muldiv R710). -/
def execMulEb (h : Head) (e : EOperand) (s : State) : Host.Outcome State Fault Refusal :=
  .next (s.mul .byte h e)

/-- `IMUL Eb` (43_muldiv R711). -/
def execImulEb (h : Head) (e : EOperand) (s : State) : Host.Outcome State Fault Refusal :=
  .next (s.imul .byte h e)

/-- `DIV Eb` (43_muldiv R720). -/
def execDivEb (h : Head) (e : EOperand) (s : State) : Host.Outcome State Fault Refusal :=
  .next (s.div .byte h e)

/-- `IDIV Eb` (43_muldiv R721). -/
def execIdivEb (h : Head) (e : EOperand) (s : State) : Host.Outcome State Fault Refusal :=
  .next (s.idiv .byte h e)

/-- `MUL Ev` (43_muldiv R710). -/
def execMulEv (h : Head) (e : EOperand) (s : State) : Host.Outcome State Fault Refusal :=
  .next (s.mul h.opSize.width h e)

/-- `IMUL Ev` (43_muldiv R711). -/
def execImulEv (h : Head) (e : EOperand) (s : State) : Host.Outcome State Fault Refusal :=
  .next (s.imul h.opSize.width h e)

/-- `DIV Ev` (43_muldiv R720). -/
def execDivEv (h : Head) (e : EOperand) (s : State) : Host.Outcome State Fault Refusal :=
  .next (s.div h.opSize.width h e)

/-- `IDIV Ev` (43_muldiv R721). -/
def execIdivEv (h : Head) (e : EOperand) (s : State) : Host.Outcome State Fault Refusal :=
  .next (s.idiv h.opSize.width h e)

/-- `IMUL Gv, Ev, Iz` (43_muldiv R713). -/
def execImulGvEvIz (h : Head) (r : Reg) (e : EOperand) (v : BitVec 32) (s : State) :
    Host.Outcome State Fault Refusal :=
  .next (s.imul3 h.opSize.width h r e (.immZ v false))

/-- `IMUL Gv, Ev, Ib` (43_muldiv R713). -/
def execImulGvEvIb (h : Head) (r : Reg) (e : EOperand) (v : BitVec 8) (s : State) :
    Host.Outcome State Fault Refusal :=
  .next (s.imul3 h.opSize.width h r e (.imm8 v true))

/-- `IMUL Gv, Ev` (43_muldiv R712). -/
def execImulGvEv (h : Head) (r : Reg) (e : EOperand) (s : State) : Host.Outcome State Fault Refusal :=
  .next (s.imul2 h.opSize.width h r e)

end Sys2Proof.Machine
end

