-- ==== Sys2Proof/Machine/PortIo.lean ====
section
/-!
DEFINITION. IN and OUT (46_io_interrupt R1000-R1003).
-/
namespace Sys2Proof.Machine

/-- IN (46_io_interrupt R1001, R1002): the port number and the destination, then one port read; a 32-bit transfer
is refused before any port access. -/
def State.portIn (w : Width) (h : Head) (port : Operand) (s : State) : State :=
  if w = .dword then s.refuse .port32
  else
    let l := s.loadAddress w h (.fixed .ax)
    let p := l.2.loadValue .word h port
    let v := p.2.portRead w p.1
    (v.2.storeLoc w l.1 v.1).advance h.len

/-- OUT (46_io_interrupt R1001, R1003): the port number and the data, then one port write; a 32-bit transfer is
refused before any port access. -/
def State.portOut (w : Width) (h : Head) (port : Operand) (s : State) : State :=
  if w = .dword then s.refuse .port32
  else
    let p := s.loadValue .word h port
    let v := p.2.loadValue w h (.fixed .ax)
    (v.2.portWrite w p.1 v.1).advance h.len

/-- `IN AL, Ib` (46_io_interrupt R1002). -/
def execInALIb (h : Head) (v : BitVec 8) (s : State) : Host.Outcome State Fault Refusal :=
  .next (s.portIn .byte h (.imm8 v false))

/-- `IN eAX, Ib` (46_io_interrupt R1002). -/
def execInEAXIb (h : Head) (v : BitVec 8) (s : State) : Host.Outcome State Fault Refusal :=
  .next (s.portIn h.opSize.width h (.imm8 v false))

/-- `IN AL, DX` (46_io_interrupt R1002). -/
def execInALDX (h : Head) (s : State) : Host.Outcome State Fault Refusal :=
  .next (s.portIn .byte h (.fixed .dx))

/-- `IN eAX, DX` (46_io_interrupt R1002). -/
def execInEAXDX (h : Head) (s : State) : Host.Outcome State Fault Refusal :=
  .next (s.portIn h.opSize.width h (.fixed .dx))

/-- `OUT Ib, AL` (46_io_interrupt R1003). -/
def execOutIbAL (h : Head) (v : BitVec 8) (s : State) : Host.Outcome State Fault Refusal :=
  .next (s.portOut .byte h (.imm8 v false))

/-- `OUT Ib, eAX` (46_io_interrupt R1003). -/
def execOutIbEAX (h : Head) (v : BitVec 8) (s : State) : Host.Outcome State Fault Refusal :=
  .next (s.portOut h.opSize.width h (.imm8 v false))

/-- `OUT DX, AL` (46_io_interrupt R1003). -/
def execOutDXAL (h : Head) (s : State) : Host.Outcome State Fault Refusal :=
  .next (s.portOut .byte h (.fixed .dx))

/-- `OUT DX, eAX` (46_io_interrupt R1003). -/
def execOutDXEAX (h : Head) (s : State) : Host.Outcome State Fault Refusal :=
  .next (s.portOut h.opSize.width h (.fixed .dx))

end Sys2Proof.Machine
end

