-- ==== Sys2Proof/Machine/SetCc.lean ====
section
/-!
DEFINITION. SETcc (45_flag_consumers R922, R950-R965).
-/
namespace Sys2Proof.Machine

/-- The byte SETcc stores (45_flag_consumers R922). -/
def condByte (b : Bool) : BitVec 8 := if b then 1#8 else 0#8

/-- SETcc (45_flag_consumers R922): the location, the condition, one store; nothing is loaded. -/
def State.setcc (c : Cond) (h : Head) (e : EOperand) (s : State) : State :=
  let l := s.loadAddress .byte h (.memory e)
  let x := l.2.readCond c
  (x.2.storeLoc .byte l.1 (condByte x.1)).advance h.len

/-- `SETO Eb` (45_flag_consumers R950); `reg` is ignored. -/
def execSetoEb (h : Head) (_r : Reg) (e : EOperand) (s : State) : Host.Outcome State Fault Refusal :=
  .next (s.setcc .o h e)

/-- `SETNO Eb` (45_flag_consumers R951); `reg` is ignored. -/
def execSetnoEb (h : Head) (_r : Reg) (e : EOperand) (s : State) : Host.Outcome State Fault Refusal :=
  .next (s.setcc .no h e)

/-- `SETB Eb` (45_flag_consumers R952); `reg` is ignored. -/
def execSetbEb (h : Head) (_r : Reg) (e : EOperand) (s : State) : Host.Outcome State Fault Refusal :=
  .next (s.setcc .b h e)

/-- `SETAE Eb` (45_flag_consumers R953); `reg` is ignored. -/
def execSetaeEb (h : Head) (_r : Reg) (e : EOperand) (s : State) : Host.Outcome State Fault Refusal :=
  .next (s.setcc .ae h e)

/-- `SETE Eb` (45_flag_consumers R954); `reg` is ignored. -/
def execSeteEb (h : Head) (_r : Reg) (e : EOperand) (s : State) : Host.Outcome State Fault Refusal :=
  .next (s.setcc .e h e)

/-- `SETNE Eb` (45_flag_consumers R955); `reg` is ignored. -/
def execSetneEb (h : Head) (_r : Reg) (e : EOperand) (s : State) : Host.Outcome State Fault Refusal :=
  .next (s.setcc .ne h e)

/-- `SETBE Eb` (45_flag_consumers R956); `reg` is ignored. -/
def execSetbeEb (h : Head) (_r : Reg) (e : EOperand) (s : State) : Host.Outcome State Fault Refusal :=
  .next (s.setcc .be h e)

/-- `SETA Eb` (45_flag_consumers R957); `reg` is ignored. -/
def execSetaEb (h : Head) (_r : Reg) (e : EOperand) (s : State) : Host.Outcome State Fault Refusal :=
  .next (s.setcc .a h e)

/-- `SETS Eb` (45_flag_consumers R958); `reg` is ignored. -/
def execSetsEb (h : Head) (_r : Reg) (e : EOperand) (s : State) : Host.Outcome State Fault Refusal :=
  .next (s.setcc .s h e)

/-- `SETNS Eb` (45_flag_consumers R959); `reg` is ignored. -/
def execSetnsEb (h : Head) (_r : Reg) (e : EOperand) (s : State) : Host.Outcome State Fault Refusal :=
  .next (s.setcc .ns h e)

/-- `SETP Eb` (45_flag_consumers R960); `reg` is ignored. -/
def execSetpEb (h : Head) (_r : Reg) (e : EOperand) (s : State) : Host.Outcome State Fault Refusal :=
  .next (s.setcc .p h e)

/-- `SETNP Eb` (45_flag_consumers R961); `reg` is ignored. -/
def execSetnpEb (h : Head) (_r : Reg) (e : EOperand) (s : State) : Host.Outcome State Fault Refusal :=
  .next (s.setcc .np h e)

/-- `SETL Eb` (45_flag_consumers R962); `reg` is ignored. -/
def execSetlEb (h : Head) (_r : Reg) (e : EOperand) (s : State) : Host.Outcome State Fault Refusal :=
  .next (s.setcc .l h e)

/-- `SETGE Eb` (45_flag_consumers R963); `reg` is ignored. -/
def execSetgeEb (h : Head) (_r : Reg) (e : EOperand) (s : State) : Host.Outcome State Fault Refusal :=
  .next (s.setcc .ge h e)

/-- `SETLE Eb` (45_flag_consumers R964); `reg` is ignored. -/
def execSetleEb (h : Head) (_r : Reg) (e : EOperand) (s : State) : Host.Outcome State Fault Refusal :=
  .next (s.setcc .le h e)

/-- `SETG Eb` (45_flag_consumers R965); `reg` is ignored. -/
def execSetgEb (h : Head) (_r : Reg) (e : EOperand) (s : State) : Host.Outcome State Fault Refusal :=
  .next (s.setcc .g h e)

end Sys2Proof.Machine
end

