-- ==== Sys2Proof/Machine/ShiftRotate.lean ====
section
/-!
DEFINITION. The shifts and rotates (44_shift_rotate R800-R817), with the alias rows `/6` (30_encoding R371).
-/
namespace Sys2Proof.Machine

/-- The seven shifts and rotates (44_shift_rotate R800). -/
inductive ShiftOp where
  | rol
  | ror
  | rcl
  | rcr
  | shl
  | shr
  | sar
deriving DecidableEq, Repr

/-- Whether an operation reads CF as an input: RCL and RCR (44_shift_rotate R802). -/
def ShiftOp.readsCarry : ShiftOp → Bool
  | .rcl => true
  | .rcr => true
  | .rol => false
  | .ror => false
  | .shl => false
  | .shr => false
  | .sar => false

/-- The result `r` of an operation on `a`, the masked count `c` and the carry-in `b` (44_shift_rotate R810-R816). -/
def ShiftOp.result (op : ShiftOp) (w : Width) (a : BitVec w.bits) (c : BitVec 5) (b : Bool) : BitVec w.bits :=
  match op with
  | .rol => rolResult w a c
  | .ror => rorResult w a c
  | .rcl => rclResult w a c b
  | .rcr => rcrResult w a c b
  | .shl => a <<< c.toNat
  | .shr => a >>> c.toNat
  | .sar => a.sshiftRight c.toNat

/-- An action that is the tag's for the masked count 1 and undefined otherwise (44_shift_rotate R803, R817). -/
def ofForOne (c : BitVec 5) (t : Tag) : FlagAction := if c = 1#5 then .lazy t else .undef

/-- The flag actions of SHL and SHR: by the tag of a count of 1, by the tag of a longer one below the width, or
with CF undefined from the width on (44_shift_rotate R810, R811). -/
def shiftActions (w : Width) (r : BitVec w.bits) (c : BitVec 5) (one more : Tag) : FlagActions :=
  if c = 1#5 then resultActions w r (.lazy one) .undef (.lazy one)
  else if c.toNat < w.bits then resultActions w r (.lazy more) .undef .undef
  else resultActions w r .undef .undef .undef

/-- The flag actions of SAR (44_shift_rotate R812). -/
def sarActions (w : Width) (r : BitVec w.bits) (c : BitVec 5) (one more : Tag) : FlagActions :=
  if c = 1#5 then resultActions w r (.lazy one) .undef (.lazy one)
  else resultActions w r (.lazy more) .undef .undef

/-- The flag actions of a rotate: CF, and OF for the count 1; the others are kept (44_shift_rotate R803). -/
def rotateActions (c : BitVec 5) (t : Tag) : FlagActions := { cf := .lazy t, of := ofForOne c t }

/-- The flag actions of an operation (44_shift_rotate R810-R816). -/
def ShiftOp.actions (op : ShiftOp) (w : Width) (a : BitVec w.bits) (c : BitVec 5) (b : Bool) : FlagActions :=
  match op with
  | .rol => rotateActions c (.rol w a c)
  | .ror => rotateActions c (.ror w a c)
  | .rcl => rotateActions c (.rcl w a c b)
  | .rcr => rotateActions c (.rcr w a c b)
  | .shl => shiftActions w (op.result w a c b) c (.shl1 w a) (.shl w a c)
  | .shr => shiftActions w (op.result w a c b) c (.shr1 w a) (.shr w a c)
  | .sar => sarActions w (op.result w a c b) c (.sar1 w a) (.sar w a c)

/-- `c = count[4:0]` (44_shift_rotate R801). -/
def maskedCount (v : BitVec 8) : BitVec 5 := v.setWidth 5

/-- The carry-in of an operation, read through the engine where the operation takes one. -/
def State.shiftCarry (op : ShiftOp) (s : State) : Bool × State :=
  if op.readsCarry then s.readFlag .cf else (false, s)

/-- `exec_shift` (44_shift_rotate R802): load the destination and the count; a masked count of 0 changes nothing
but `EIP` (R801); else operate, store at the same location, write the flags, advance. Every count operand is requested
as one byte; that the constant 1 of `D1` is so too is a DESIGN CHOICE, since the spec gives it no size (30_encoding
R331, R334, R343; log 31). -/
def State.shift (op : ShiftOp) (w : Width) (h : Head) (e : EOperand) (count : Operand) (s : State) : State :=
  let l := s.loadAddress w h (.memory e)
  let a := l.2.loadLoc w l.1
  let n := a.2.loadValue .byte h count
  let c := maskedCount n.1
  if c = 0#5 then n.2.advance h.len
  else
    let b := n.2.shiftCarry op
    ((b.2.storeLoc w l.1 (op.result w a.1 c b.1)).writeFlags (op.actions w a.1 c b.1)).advance h.len

/-- `ROL Eb, Ib` (44_shift_rotate R813). -/
def execRolEbIb (h : Head) (e : EOperand) (v : BitVec 8) (s : State) : Host.Outcome State Fault Refusal :=
  .next (s.shift .rol .byte h e (.imm8 v false))

/-- `ROR Eb, Ib` (44_shift_rotate R814). -/
def execRorEbIb (h : Head) (e : EOperand) (v : BitVec 8) (s : State) : Host.Outcome State Fault Refusal :=
  .next (s.shift .ror .byte h e (.imm8 v false))

/-- `RCL Eb, Ib` (44_shift_rotate R815). -/
def execRclEbIb (h : Head) (e : EOperand) (v : BitVec 8) (s : State) : Host.Outcome State Fault Refusal :=
  .next (s.shift .rcl .byte h e (.imm8 v false))

/-- `RCR Eb, Ib` (44_shift_rotate R816). -/
def execRcrEbIb (h : Head) (e : EOperand) (v : BitVec 8) (s : State) : Host.Outcome State Fault Refusal :=
  .next (s.shift .rcr .byte h e (.imm8 v false))

/-- `SHL Eb, Ib` (44_shift_rotate R810). -/
def execShlEbIb (h : Head) (e : EOperand) (v : BitVec 8) (s : State) : Host.Outcome State Fault Refusal :=
  .next (s.shift .shl .byte h e (.imm8 v false))

/-- `SHR Eb, Ib` (44_shift_rotate R811). -/
def execShrEbIb (h : Head) (e : EOperand) (v : BitVec 8) (s : State) : Host.Outcome State Fault Refusal :=
  .next (s.shift .shr .byte h e (.imm8 v false))

/-- `SHL Eb, Ib (/6 alias of /4)` (30_encoding R371). -/
def execShlEbIbSlash6 (h : Head) (a : Aliased (EOperand × BitVec 8)) (s : State) :
    Host.Outcome State Fault Refusal :=
  .next (s.aliased a fun ops => State.shift .shl .byte h ops.1 (.imm8 ops.2 false))

/-- `SAR Eb, Ib` (44_shift_rotate R812). -/
def execSarEbIb (h : Head) (e : EOperand) (v : BitVec 8) (s : State) : Host.Outcome State Fault Refusal :=
  .next (s.shift .sar .byte h e (.imm8 v false))

/-- `ROL Ev, Ib` (44_shift_rotate R813). -/
def execRolEvIb (h : Head) (e : EOperand) (v : BitVec 8) (s : State) : Host.Outcome State Fault Refusal :=
  .next (s.shift .rol h.opSize.width h e (.imm8 v false))

/-- `ROR Ev, Ib` (44_shift_rotate R814). -/
def execRorEvIb (h : Head) (e : EOperand) (v : BitVec 8) (s : State) : Host.Outcome State Fault Refusal :=
  .next (s.shift .ror h.opSize.width h e (.imm8 v false))

/-- `RCL Ev, Ib` (44_shift_rotate R815). -/
def execRclEvIb (h : Head) (e : EOperand) (v : BitVec 8) (s : State) : Host.Outcome State Fault Refusal :=
  .next (s.shift .rcl h.opSize.width h e (.imm8 v false))

/-- `RCR Ev, Ib` (44_shift_rotate R816). -/
def execRcrEvIb (h : Head) (e : EOperand) (v : BitVec 8) (s : State) : Host.Outcome State Fault Refusal :=
  .next (s.shift .rcr h.opSize.width h e (.imm8 v false))

/-- `SHL Ev, Ib` (44_shift_rotate R810). -/
def execShlEvIb (h : Head) (e : EOperand) (v : BitVec 8) (s : State) : Host.Outcome State Fault Refusal :=
  .next (s.shift .shl h.opSize.width h e (.imm8 v false))

/-- `SHR Ev, Ib` (44_shift_rotate R811). -/
def execShrEvIb (h : Head) (e : EOperand) (v : BitVec 8) (s : State) : Host.Outcome State Fault Refusal :=
  .next (s.shift .shr h.opSize.width h e (.imm8 v false))

/-- `SHL Ev, Ib (/6 alias of /4)` (30_encoding R371). -/
def execShlEvIbSlash6 (h : Head) (a : Aliased (EOperand × BitVec 8)) (s : State) :
    Host.Outcome State Fault Refusal :=
  .next (s.aliased a fun ops => State.shift .shl h.opSize.width h ops.1 (.imm8 ops.2 false))

/-- `SAR Ev, Ib` (44_shift_rotate R812). -/
def execSarEvIb (h : Head) (e : EOperand) (v : BitVec 8) (s : State) : Host.Outcome State Fault Refusal :=
  .next (s.shift .sar h.opSize.width h e (.imm8 v false))

/-- `ROL Eb, 1` (44_shift_rotate R813). -/
def execRolEb1 (h : Head) (e : EOperand) (s : State) : Host.Outcome State Fault Refusal :=
  .next (s.shift .rol .byte h e .one)

/-- `ROR Eb, 1` (44_shift_rotate R814). -/
def execRorEb1 (h : Head) (e : EOperand) (s : State) : Host.Outcome State Fault Refusal :=
  .next (s.shift .ror .byte h e .one)

/-- `RCL Eb, 1` (44_shift_rotate R815). -/
def execRclEb1 (h : Head) (e : EOperand) (s : State) : Host.Outcome State Fault Refusal :=
  .next (s.shift .rcl .byte h e .one)

/-- `RCR Eb, 1` (44_shift_rotate R816). -/
def execRcrEb1 (h : Head) (e : EOperand) (s : State) : Host.Outcome State Fault Refusal :=
  .next (s.shift .rcr .byte h e .one)

/-- `SHL Eb, 1` (44_shift_rotate R810). -/
def execShlEb1 (h : Head) (e : EOperand) (s : State) : Host.Outcome State Fault Refusal :=
  .next (s.shift .shl .byte h e .one)

/-- `SHR Eb, 1` (44_shift_rotate R811). -/
def execShrEb1 (h : Head) (e : EOperand) (s : State) : Host.Outcome State Fault Refusal :=
  .next (s.shift .shr .byte h e .one)

/-- `SHL Eb, 1 (/6 alias of /4)` (30_encoding R371). -/
def execShlEb1Slash6 (h : Head) (a : Aliased EOperand) (s : State) : Host.Outcome State Fault Refusal :=
  .next (s.aliased a fun ops => State.shift .shl .byte h ops .one)

/-- `SAR Eb, 1` (44_shift_rotate R812). -/
def execSarEb1 (h : Head) (e : EOperand) (s : State) : Host.Outcome State Fault Refusal :=
  .next (s.shift .sar .byte h e .one)

/-- `ROL Ev, 1` (44_shift_rotate R813). -/
def execRolEv1 (h : Head) (e : EOperand) (s : State) : Host.Outcome State Fault Refusal :=
  .next (s.shift .rol h.opSize.width h e .one)

/-- `ROR Ev, 1` (44_shift_rotate R814). -/
def execRorEv1 (h : Head) (e : EOperand) (s : State) : Host.Outcome State Fault Refusal :=
  .next (s.shift .ror h.opSize.width h e .one)

/-- `RCL Ev, 1` (44_shift_rotate R815). -/
def execRclEv1 (h : Head) (e : EOperand) (s : State) : Host.Outcome State Fault Refusal :=
  .next (s.shift .rcl h.opSize.width h e .one)

/-- `RCR Ev, 1` (44_shift_rotate R816). -/
def execRcrEv1 (h : Head) (e : EOperand) (s : State) : Host.Outcome State Fault Refusal :=
  .next (s.shift .rcr h.opSize.width h e .one)

/-- `SHL Ev, 1` (44_shift_rotate R810). -/
def execShlEv1 (h : Head) (e : EOperand) (s : State) : Host.Outcome State Fault Refusal :=
  .next (s.shift .shl h.opSize.width h e .one)

/-- `SHR Ev, 1` (44_shift_rotate R811). -/
def execShrEv1 (h : Head) (e : EOperand) (s : State) : Host.Outcome State Fault Refusal :=
  .next (s.shift .shr h.opSize.width h e .one)

/-- `SHL Ev, 1 (/6 alias of /4)` (30_encoding R371). -/
def execShlEv1Slash6 (h : Head) (a : Aliased EOperand) (s : State) : Host.Outcome State Fault Refusal :=
  .next (s.aliased a fun ops => State.shift .shl h.opSize.width h ops .one)

/-- `SAR Ev, 1` (44_shift_rotate R812). -/
def execSarEv1 (h : Head) (e : EOperand) (s : State) : Host.Outcome State Fault Refusal :=
  .next (s.shift .sar h.opSize.width h e .one)

/-- `ROL Eb, CL` (44_shift_rotate R813). -/
def execRolEbCL (h : Head) (e : EOperand) (s : State) : Host.Outcome State Fault Refusal :=
  .next (s.shift .rol .byte h e (.fixed .cx))

/-- `ROR Eb, CL` (44_shift_rotate R814). -/
def execRorEbCL (h : Head) (e : EOperand) (s : State) : Host.Outcome State Fault Refusal :=
  .next (s.shift .ror .byte h e (.fixed .cx))

/-- `RCL Eb, CL` (44_shift_rotate R815). -/
def execRclEbCL (h : Head) (e : EOperand) (s : State) : Host.Outcome State Fault Refusal :=
  .next (s.shift .rcl .byte h e (.fixed .cx))

/-- `RCR Eb, CL` (44_shift_rotate R816). -/
def execRcrEbCL (h : Head) (e : EOperand) (s : State) : Host.Outcome State Fault Refusal :=
  .next (s.shift .rcr .byte h e (.fixed .cx))

/-- `SHL Eb, CL` (44_shift_rotate R810). -/
def execShlEbCL (h : Head) (e : EOperand) (s : State) : Host.Outcome State Fault Refusal :=
  .next (s.shift .shl .byte h e (.fixed .cx))

/-- `SHR Eb, CL` (44_shift_rotate R811). -/
def execShrEbCL (h : Head) (e : EOperand) (s : State) : Host.Outcome State Fault Refusal :=
  .next (s.shift .shr .byte h e (.fixed .cx))

/-- `SHL Eb, CL (/6 alias of /4)` (30_encoding R371). -/
def execShlEbCLSlash6 (h : Head) (a : Aliased EOperand) (s : State) : Host.Outcome State Fault Refusal :=
  .next (s.aliased a fun ops => State.shift .shl .byte h ops (.fixed .cx))

/-- `SAR Eb, CL` (44_shift_rotate R812). -/
def execSarEbCL (h : Head) (e : EOperand) (s : State) : Host.Outcome State Fault Refusal :=
  .next (s.shift .sar .byte h e (.fixed .cx))

/-- `ROL Ev, CL` (44_shift_rotate R813). -/
def execRolEvCL (h : Head) (e : EOperand) (s : State) : Host.Outcome State Fault Refusal :=
  .next (s.shift .rol h.opSize.width h e (.fixed .cx))

/-- `ROR Ev, CL` (44_shift_rotate R814). -/
def execRorEvCL (h : Head) (e : EOperand) (s : State) : Host.Outcome State Fault Refusal :=
  .next (s.shift .ror h.opSize.width h e (.fixed .cx))

/-- `RCL Ev, CL` (44_shift_rotate R815). -/
def execRclEvCL (h : Head) (e : EOperand) (s : State) : Host.Outcome State Fault Refusal :=
  .next (s.shift .rcl h.opSize.width h e (.fixed .cx))

/-- `RCR Ev, CL` (44_shift_rotate R816). -/
def execRcrEvCL (h : Head) (e : EOperand) (s : State) : Host.Outcome State Fault Refusal :=
  .next (s.shift .rcr h.opSize.width h e (.fixed .cx))

/-- `SHL Ev, CL` (44_shift_rotate R810). -/
def execShlEvCL (h : Head) (e : EOperand) (s : State) : Host.Outcome State Fault Refusal :=
  .next (s.shift .shl h.opSize.width h e (.fixed .cx))

/-- `SHR Ev, CL` (44_shift_rotate R811). -/
def execShrEvCL (h : Head) (e : EOperand) (s : State) : Host.Outcome State Fault Refusal :=
  .next (s.shift .shr h.opSize.width h e (.fixed .cx))

/-- `SHL Ev, CL (/6 alias of /4)` (30_encoding R371). -/
def execShlEvCLSlash6 (h : Head) (a : Aliased EOperand) (s : State) : Host.Outcome State Fault Refusal :=
  .next (s.aliased a fun ops => State.shift .shl h.opSize.width h ops (.fixed .cx))

/-- `SAR Ev, CL` (44_shift_rotate R812). -/
def execSarEvCL (h : Head) (e : EOperand) (s : State) : Host.Outcome State Fault Refusal :=
  .next (s.shift .sar h.opSize.width h e (.fixed .cx))

end Sys2Proof.Machine
end

