-- ==== Sys2Proof/Machine/SoftInt.lean ====
section
/-!
DEFINITION. INT3, INT n and INTO (46_io_interrupt R1010-R1014), and the rows that raise `#UD` (30_encoding R372;
60_exceptions R1102).
-/
namespace Sys2Proof.Machine

/-- INT n (46_io_interrupt R1012). -/
def State.intN (h : Head) (v : BitVec 8) (s : State) : State :=
  let x := s.loadValue .byte h (.imm8 v false)
  x.2.softInt h.len x.1

/-- INTO (46_io_interrupt R1013). -/
def State.into (h : Head) (s : State) : State :=
  let o := s.readFlag .of
  if o.1 then o.2.softInt h.len 4#8 else o.2.advance h.len

/-- INT3 (46_io_interrupt R1011). -/
def execInt3 (h : Head) (s : State) : Host.Outcome State Fault Refusal :=
  .next (s.softInt h.len 3#8)

/-- INT n (46_io_interrupt R1012). -/
def execIntIb (h : Head) (v : BitVec 8) (s : State) : Host.Outcome State Fault Refusal :=
  .next (s.intN h v)

/-- INTO (46_io_interrupt R1013). -/
def execInto (h : Head) (s : State) : Host.Outcome State Fault Refusal :=
  .next (s.into h)

/-- `FE /2`, undefined: `#UD` (30_encoding R372). -/
def execUndefinedFE2 (_h : Head) (_m : ModRmBits) (s : State) : Host.Outcome State Fault Refusal :=
  .next s.raiseUD

/-- `FE /3`, undefined: `#UD` (30_encoding R372). -/
def execUndefinedFE3 (_h : Head) (_m : ModRmBits) (s : State) : Host.Outcome State Fault Refusal :=
  .next s.raiseUD

/-- `FE /4`, undefined: `#UD` (30_encoding R372). -/
def execUndefinedFE4 (_h : Head) (_m : ModRmBits) (s : State) : Host.Outcome State Fault Refusal :=
  .next s.raiseUD

/-- `FE /5`, undefined: `#UD` (30_encoding R372). -/
def execUndefinedFE5 (_h : Head) (_m : ModRmBits) (s : State) : Host.Outcome State Fault Refusal :=
  .next s.raiseUD

/-- `FE /6`, undefined: `#UD` (30_encoding R372). -/
def execUndefinedFE6 (_h : Head) (_m : ModRmBits) (s : State) : Host.Outcome State Fault Refusal :=
  .next s.raiseUD

/-- `FE /7`, undefined: `#UD` (30_encoding R372). -/
def execUndefinedFE7 (_h : Head) (_m : ModRmBits) (s : State) : Host.Outcome State Fault Refusal :=
  .next s.raiseUD

/-- `FF /7`, undefined: `#UD` (30_encoding R372). -/
def execUndefinedFF7 (_h : Head) (_m : ModRmBits) (s : State) : Host.Outcome State Fault Refusal :=
  .next s.raiseUD

end Sys2Proof.Machine
end

