-- ==== Sys2Proof/Machine/Dispatch.lean ====
section
/-! DEFINITION. The dispatch: one arm per instruction, one direct call of its meaning (30_encoding R350). -/
namespace Sys2Proof.Machine

/-- Run one decoded instruction. -/
def exec (i : Instr) (s : State) : Host.Outcome State Fault Refusal :=
  match i with
  | .addEbGb h r e => Sys2Proof.Machine.execAddEbGb h r e s
  | .addEvGv h r e => Sys2Proof.Machine.execAddEvGv h r e s
  | .addGbEb h r e => Sys2Proof.Machine.execAddGbEb h r e s
  | .addGvEv h r e => Sys2Proof.Machine.execAddGvEv h r e s
  | .addALIb h v => Sys2Proof.Machine.execAddALIb h v s
  | .addEAXIz h v => Sys2Proof.Machine.execAddEAXIz h v s
  | .orEbGb h r e => Sys2Proof.Machine.execOrEbGb h r e s
  | .orEvGv h r e => Sys2Proof.Machine.execOrEvGv h r e s
  | .orGbEb h r e => Sys2Proof.Machine.execOrGbEb h r e s
  | .orGvEv h r e => Sys2Proof.Machine.execOrGvEv h r e s
  | .orALIb h v => Sys2Proof.Machine.execOrALIb h v s
  | .orEAXIz h v => Sys2Proof.Machine.execOrEAXIz h v s
  | .adcEbGb h r e => Sys2Proof.Machine.execAdcEbGb h r e s
  | .adcEvGv h r e => Sys2Proof.Machine.execAdcEvGv h r e s
  | .adcGbEb h r e => Sys2Proof.Machine.execAdcGbEb h r e s
  | .adcGvEv h r e => Sys2Proof.Machine.execAdcGvEv h r e s
  | .adcALIb h v => Sys2Proof.Machine.execAdcALIb h v s
  | .adcEAXIz h v => Sys2Proof.Machine.execAdcEAXIz h v s
  | .sbbEbGb h r e => Sys2Proof.Machine.execSbbEbGb h r e s
  | .sbbEvGv h r e => Sys2Proof.Machine.execSbbEvGv h r e s
  | .sbbGbEb h r e => Sys2Proof.Machine.execSbbGbEb h r e s
  | .sbbGvEv h r e => Sys2Proof.Machine.execSbbGvEv h r e s
  | .sbbALIb h v => Sys2Proof.Machine.execSbbALIb h v s
  | .sbbEAXIz h v => Sys2Proof.Machine.execSbbEAXIz h v s
  | .andEbGb h r e => Sys2Proof.Machine.execAndEbGb h r e s
  | .andEvGv h r e => Sys2Proof.Machine.execAndEvGv h r e s
  | .andGbEb h r e => Sys2Proof.Machine.execAndGbEb h r e s
  | .andGvEv h r e => Sys2Proof.Machine.execAndGvEv h r e s
  | .andALIb h v => Sys2Proof.Machine.execAndALIb h v s
  | .andEAXIz h v => Sys2Proof.Machine.execAndEAXIz h v s
  | .subEbGb h r e => Sys2Proof.Machine.execSubEbGb h r e s
  | .subEvGv h r e => Sys2Proof.Machine.execSubEvGv h r e s
  | .subGbEb h r e => Sys2Proof.Machine.execSubGbEb h r e s
  | .subGvEv h r e => Sys2Proof.Machine.execSubGvEv h r e s
  | .subALIb h v => Sys2Proof.Machine.execSubALIb h v s
  | .subEAXIz h v => Sys2Proof.Machine.execSubEAXIz h v s
  | .xorEbGb h r e => Sys2Proof.Machine.execXorEbGb h r e s
  | .xorEvGv h r e => Sys2Proof.Machine.execXorEvGv h r e s
  | .xorGbEb h r e => Sys2Proof.Machine.execXorGbEb h r e s
  | .xorGvEv h r e => Sys2Proof.Machine.execXorGvEv h r e s
  | .xorALIb h v => Sys2Proof.Machine.execXorALIb h v s
  | .xorEAXIz h v => Sys2Proof.Machine.execXorEAXIz h v s
  | .cmpEbGb h r e => Sys2Proof.Machine.execCmpEbGb h r e s
  | .cmpEvGv h r e => Sys2Proof.Machine.execCmpEvGv h r e s
  | .cmpGbEb h r e => Sys2Proof.Machine.execCmpGbEb h r e s
  | .cmpGvEv h r e => Sys2Proof.Machine.execCmpGvEv h r e s
  | .cmpALIb h v => Sys2Proof.Machine.execCmpALIb h v s
  | .cmpEAXIz h v => Sys2Proof.Machine.execCmpEAXIz h v s
  | .incZv h r => Sys2Proof.Machine.execIncZv h r s
  | .decZv h r => Sys2Proof.Machine.execDecZv h r s
  | .addEbIb h e v => Sys2Proof.Machine.execAddEbIb h e v s
  | .orEbIb h e v => Sys2Proof.Machine.execOrEbIb h e v s
  | .adcEbIb h e v => Sys2Proof.Machine.execAdcEbIb h e v s
  | .sbbEbIb h e v => Sys2Proof.Machine.execSbbEbIb h e v s
  | .andEbIb h e v => Sys2Proof.Machine.execAndEbIb h e v s
  | .subEbIb h e v => Sys2Proof.Machine.execSubEbIb h e v s
  | .xorEbIb h e v => Sys2Proof.Machine.execXorEbIb h e v s
  | .cmpEbIb h e v => Sys2Proof.Machine.execCmpEbIb h e v s
  | .addEvIz h e v => Sys2Proof.Machine.execAddEvIz h e v s
  | .orEvIz h e v => Sys2Proof.Machine.execOrEvIz h e v s
  | .adcEvIz h e v => Sys2Proof.Machine.execAdcEvIz h e v s
  | .sbbEvIz h e v => Sys2Proof.Machine.execSbbEvIz h e v s
  | .andEvIz h e v => Sys2Proof.Machine.execAndEvIz h e v s
  | .subEvIz h e v => Sys2Proof.Machine.execSubEvIz h e v s
  | .xorEvIz h e v => Sys2Proof.Machine.execXorEvIz h e v s
  | .cmpEvIz h e v => Sys2Proof.Machine.execCmpEvIz h e v s
  | .addEvIb h e v => Sys2Proof.Machine.execAddEvIb h e v s
  | .orEvIb h e v => Sys2Proof.Machine.execOrEvIb h e v s
  | .adcEvIb h e v => Sys2Proof.Machine.execAdcEvIb h e v s
  | .sbbEvIb h e v => Sys2Proof.Machine.execSbbEvIb h e v s
  | .andEvIb h e v => Sys2Proof.Machine.execAndEvIb h e v s
  | .subEvIb h e v => Sys2Proof.Machine.execSubEvIb h e v s
  | .xorEvIb h e v => Sys2Proof.Machine.execXorEvIb h e v s
  | .cmpEvIb h e v => Sys2Proof.Machine.execCmpEvIb h e v s
  | .addEbIb82 h a => Sys2Proof.Machine.execAddEbIb82 h a s
  | .orEbIb82 h a => Sys2Proof.Machine.execOrEbIb82 h a s
  | .adcEbIb82 h a => Sys2Proof.Machine.execAdcEbIb82 h a s
  | .sbbEbIb82 h a => Sys2Proof.Machine.execSbbEbIb82 h a s
  | .andEbIb82 h a => Sys2Proof.Machine.execAndEbIb82 h a s
  | .subEbIb82 h a => Sys2Proof.Machine.execSubEbIb82 h a s
  | .xorEbIb82 h a => Sys2Proof.Machine.execXorEbIb82 h a s
  | .cmpEbIb82 h a => Sys2Proof.Machine.execCmpEbIb82 h a s
  | .testEbGb h r e => Sys2Proof.Machine.execTestEbGb h r e s
  | .testEvGv h r e => Sys2Proof.Machine.execTestEvGv h r e s
  | .testALIb h v => Sys2Proof.Machine.execTestALIb h v s
  | .testEAXIz h v => Sys2Proof.Machine.execTestEAXIz h v s
  | .testEbIb h e v => Sys2Proof.Machine.execTestEbIb h e v s
  | .testEbIbSlash1 h a => Sys2Proof.Machine.execTestEbIbSlash1 h a s
  | .notEb h e => Sys2Proof.Machine.execNotEb h e s
  | .negEb h e => Sys2Proof.Machine.execNegEb h e s
  | .mulEb h e => Sys2Proof.Machine.execMulEb h e s
  | .imulEb h e => Sys2Proof.Machine.execImulEb h e s
  | .divEb h e => Sys2Proof.Machine.execDivEb h e s
  | .idivEb h e => Sys2Proof.Machine.execIdivEb h e s
  | .testEvIz h e v => Sys2Proof.Machine.execTestEvIz h e v s
  | .testEvIzSlash1 h a => Sys2Proof.Machine.execTestEvIzSlash1 h a s
  | .notEv h e => Sys2Proof.Machine.execNotEv h e s
  | .negEv h e => Sys2Proof.Machine.execNegEv h e s
  | .mulEv h e => Sys2Proof.Machine.execMulEv h e s
  | .imulEv h e => Sys2Proof.Machine.execImulEv h e s
  | .divEv h e => Sys2Proof.Machine.execDivEv h e s
  | .idivEv h e => Sys2Proof.Machine.execIdivEv h e s
  | .incEb h e => Sys2Proof.Machine.execIncEb h e s
  | .decEb h e => Sys2Proof.Machine.execDecEb h e s
  | .incEv h e => Sys2Proof.Machine.execIncEv h e s
  | .decEv h e => Sys2Proof.Machine.execDecEv h e s
  | .undefinedFE2 h m => Sys2Proof.Machine.execUndefinedFE2 h m s
  | .undefinedFE3 h m => Sys2Proof.Machine.execUndefinedFE3 h m s
  | .undefinedFE4 h m => Sys2Proof.Machine.execUndefinedFE4 h m s
  | .undefinedFE5 h m => Sys2Proof.Machine.execUndefinedFE5 h m s
  | .undefinedFE6 h m => Sys2Proof.Machine.execUndefinedFE6 h m s
  | .undefinedFE7 h m => Sys2Proof.Machine.execUndefinedFE7 h m s
  | .undefinedFF7 h m => Sys2Proof.Machine.execUndefinedFF7 h m s
  | .rolEbIb h e v => Sys2Proof.Machine.execRolEbIb h e v s
  | .rorEbIb h e v => Sys2Proof.Machine.execRorEbIb h e v s
  | .rclEbIb h e v => Sys2Proof.Machine.execRclEbIb h e v s
  | .rcrEbIb h e v => Sys2Proof.Machine.execRcrEbIb h e v s
  | .shlEbIb h e v => Sys2Proof.Machine.execShlEbIb h e v s
  | .shrEbIb h e v => Sys2Proof.Machine.execShrEbIb h e v s
  | .shlEbIbSlash6 h a => Sys2Proof.Machine.execShlEbIbSlash6 h a s
  | .sarEbIb h e v => Sys2Proof.Machine.execSarEbIb h e v s
  | .rolEvIb h e v => Sys2Proof.Machine.execRolEvIb h e v s
  | .rorEvIb h e v => Sys2Proof.Machine.execRorEvIb h e v s
  | .rclEvIb h e v => Sys2Proof.Machine.execRclEvIb h e v s
  | .rcrEvIb h e v => Sys2Proof.Machine.execRcrEvIb h e v s
  | .shlEvIb h e v => Sys2Proof.Machine.execShlEvIb h e v s
  | .shrEvIb h e v => Sys2Proof.Machine.execShrEvIb h e v s
  | .shlEvIbSlash6 h a => Sys2Proof.Machine.execShlEvIbSlash6 h a s
  | .sarEvIb h e v => Sys2Proof.Machine.execSarEvIb h e v s
  | .rolEb1 h e => Sys2Proof.Machine.execRolEb1 h e s
  | .rorEb1 h e => Sys2Proof.Machine.execRorEb1 h e s
  | .rclEb1 h e => Sys2Proof.Machine.execRclEb1 h e s
  | .rcrEb1 h e => Sys2Proof.Machine.execRcrEb1 h e s
  | .shlEb1 h e => Sys2Proof.Machine.execShlEb1 h e s
  | .shrEb1 h e => Sys2Proof.Machine.execShrEb1 h e s
  | .shlEb1Slash6 h a => Sys2Proof.Machine.execShlEb1Slash6 h a s
  | .sarEb1 h e => Sys2Proof.Machine.execSarEb1 h e s
  | .rolEv1 h e => Sys2Proof.Machine.execRolEv1 h e s
  | .rorEv1 h e => Sys2Proof.Machine.execRorEv1 h e s
  | .rclEv1 h e => Sys2Proof.Machine.execRclEv1 h e s
  | .rcrEv1 h e => Sys2Proof.Machine.execRcrEv1 h e s
  | .shlEv1 h e => Sys2Proof.Machine.execShlEv1 h e s
  | .shrEv1 h e => Sys2Proof.Machine.execShrEv1 h e s
  | .shlEv1Slash6 h a => Sys2Proof.Machine.execShlEv1Slash6 h a s
  | .sarEv1 h e => Sys2Proof.Machine.execSarEv1 h e s
  | .rolEbCL h e => Sys2Proof.Machine.execRolEbCL h e s
  | .rorEbCL h e => Sys2Proof.Machine.execRorEbCL h e s
  | .rclEbCL h e => Sys2Proof.Machine.execRclEbCL h e s
  | .rcrEbCL h e => Sys2Proof.Machine.execRcrEbCL h e s
  | .shlEbCL h e => Sys2Proof.Machine.execShlEbCL h e s
  | .shrEbCL h e => Sys2Proof.Machine.execShrEbCL h e s
  | .shlEbCLSlash6 h a => Sys2Proof.Machine.execShlEbCLSlash6 h a s
  | .sarEbCL h e => Sys2Proof.Machine.execSarEbCL h e s
  | .rolEvCL h e => Sys2Proof.Machine.execRolEvCL h e s
  | .rorEvCL h e => Sys2Proof.Machine.execRorEvCL h e s
  | .rclEvCL h e => Sys2Proof.Machine.execRclEvCL h e s
  | .rcrEvCL h e => Sys2Proof.Machine.execRcrEvCL h e s
  | .shlEvCL h e => Sys2Proof.Machine.execShlEvCL h e s
  | .shrEvCL h e => Sys2Proof.Machine.execShrEvCL h e s
  | .shlEvCLSlash6 h a => Sys2Proof.Machine.execShlEvCLSlash6 h a s
  | .sarEvCL h e => Sys2Proof.Machine.execSarEvCL h e s
  | .imulGvEvIz h r e v => Sys2Proof.Machine.execImulGvEvIz h r e v s
  | .imulGvEvIb h r e v => Sys2Proof.Machine.execImulGvEvIb h r e v s
  | .imulGvEv h r e => Sys2Proof.Machine.execImulGvEv h r e s
  | .joJb h v => Sys2Proof.Machine.execJoJb h v s
  | .jnoJb h v => Sys2Proof.Machine.execJnoJb h v s
  | .jbJb h v => Sys2Proof.Machine.execJbJb h v s
  | .jaeJb h v => Sys2Proof.Machine.execJaeJb h v s
  | .jeJb h v => Sys2Proof.Machine.execJeJb h v s
  | .jneJb h v => Sys2Proof.Machine.execJneJb h v s
  | .jbeJb h v => Sys2Proof.Machine.execJbeJb h v s
  | .jaJb h v => Sys2Proof.Machine.execJaJb h v s
  | .jsJb h v => Sys2Proof.Machine.execJsJb h v s
  | .jnsJb h v => Sys2Proof.Machine.execJnsJb h v s
  | .jpJb h v => Sys2Proof.Machine.execJpJb h v s
  | .jnpJb h v => Sys2Proof.Machine.execJnpJb h v s
  | .jlJb h v => Sys2Proof.Machine.execJlJb h v s
  | .jgeJb h v => Sys2Proof.Machine.execJgeJb h v s
  | .jleJb h v => Sys2Proof.Machine.execJleJb h v s
  | .jgJb h v => Sys2Proof.Machine.execJgJb h v s
  | .joJz h v => Sys2Proof.Machine.execJoJz h v s
  | .jnoJz h v => Sys2Proof.Machine.execJnoJz h v s
  | .jbJz h v => Sys2Proof.Machine.execJbJz h v s
  | .jaeJz h v => Sys2Proof.Machine.execJaeJz h v s
  | .jeJz h v => Sys2Proof.Machine.execJeJz h v s
  | .jneJz h v => Sys2Proof.Machine.execJneJz h v s
  | .jbeJz h v => Sys2Proof.Machine.execJbeJz h v s
  | .jaJz h v => Sys2Proof.Machine.execJaJz h v s
  | .jsJz h v => Sys2Proof.Machine.execJsJz h v s
  | .jnsJz h v => Sys2Proof.Machine.execJnsJz h v s
  | .jpJz h v => Sys2Proof.Machine.execJpJz h v s
  | .jnpJz h v => Sys2Proof.Machine.execJnpJz h v s
  | .jlJz h v => Sys2Proof.Machine.execJlJz h v s
  | .jgeJz h v => Sys2Proof.Machine.execJgeJz h v s
  | .jleJz h v => Sys2Proof.Machine.execJleJz h v s
  | .jgJz h v => Sys2Proof.Machine.execJgJz h v s
  | .setoEb h r e => Sys2Proof.Machine.execSetoEb h r e s
  | .setnoEb h r e => Sys2Proof.Machine.execSetnoEb h r e s
  | .setbEb h r e => Sys2Proof.Machine.execSetbEb h r e s
  | .setaeEb h r e => Sys2Proof.Machine.execSetaeEb h r e s
  | .seteEb h r e => Sys2Proof.Machine.execSeteEb h r e s
  | .setneEb h r e => Sys2Proof.Machine.execSetneEb h r e s
  | .setbeEb h r e => Sys2Proof.Machine.execSetbeEb h r e s
  | .setaEb h r e => Sys2Proof.Machine.execSetaEb h r e s
  | .setsEb h r e => Sys2Proof.Machine.execSetsEb h r e s
  | .setnsEb h r e => Sys2Proof.Machine.execSetnsEb h r e s
  | .setpEb h r e => Sys2Proof.Machine.execSetpEb h r e s
  | .setnpEb h r e => Sys2Proof.Machine.execSetnpEb h r e s
  | .setlEb h r e => Sys2Proof.Machine.execSetlEb h r e s
  | .setgeEb h r e => Sys2Proof.Machine.execSetgeEb h r e s
  | .setleEb h r e => Sys2Proof.Machine.execSetleEb h r e s
  | .setgEb h r e => Sys2Proof.Machine.execSetgEb h r e s
  | .clc h => Sys2Proof.Machine.execClc h s
  | .stc h => Sys2Proof.Machine.execStc h s
  | .cmc h => Sys2Proof.Machine.execCmc h s
  | .lahf h => Sys2Proof.Machine.execLahf h s
  | .sahf h => Sys2Proof.Machine.execSahf h s
  | .inALIb h v => Sys2Proof.Machine.execInALIb h v s
  | .inEAXIb h v => Sys2Proof.Machine.execInEAXIb h v s
  | .inALDX h => Sys2Proof.Machine.execInALDX h s
  | .inEAXDX h => Sys2Proof.Machine.execInEAXDX h s
  | .outIbAL h v => Sys2Proof.Machine.execOutIbAL h v s
  | .outIbEAX h v => Sys2Proof.Machine.execOutIbEAX h v s
  | .outDXAL h => Sys2Proof.Machine.execOutDXAL h s
  | .outDXEAX h => Sys2Proof.Machine.execOutDXEAX h s
  | .int3 h => Sys2Proof.Machine.execInt3 h s
  | .intIb h v => Sys2Proof.Machine.execIntIb h v s
  | .into h => Sys2Proof.Machine.execInto h s

end Sys2Proof.Machine
end

