-- ==== Sys2Proof/Machine/Cycle.lean ====
section
/-!
DEFINITION. What one step does while the run goes on (70_reset R1204).
-/
namespace Sys2Proof.Machine

/-- One step at a boundary with status `Running` (70_reset R1204): the end of the run at `stopIP` (R1206), an
external interrupt delivered (60_exceptions R1130), or one instruction: the bytes at `EIP` are decoded, exactly the
bytes the decode read are fetched, and the instruction runs, or the refusal or decode fault ends the run. The input
`pending` is read afresh at each boundary that is not the end of the run (log 16). -/
def State.stepRunning (s : State) : Host.Outcome State Fault Refusal :=
  if s.eip = s.params.stopIP then .next (s.setStatus .finished)
  else
    match s.offered with
    | some v => .next (s.takeOffer.deliver (.external v))
    | none =>
      let d := decode s.params.mode s.window
      let s' := s.takeOffer.afterFetch d.len
      match d.outcome with
      | .instr i => exec i s'
      | .refuse r => .next (s'.refuse r)
      | .fatal r => .next (s'.decodeFault r)

end Sys2Proof.Machine
end

