-- ==== Sys2Proof/Machine/Step.lean ====
section
/-!
DEFINITION. One step of the machine (70_reset R1204), and the placing of an instruction where the next step
fetches it.
-/
namespace Sys2Proof.Machine

/-- One step (70_reset R1204): none once the run is over. -/
def step (s : State) : Host.Outcome State Fault Refusal :=
  match s.status with
  | .running => s.stepRunning
  | .finished => .fault .runOver
  | .trapped _ => .fault .runOver
  | .faulted _ => .fault .runOver
  | .refused _ => .fault .runOver
  | .fatal _ => .fault .runOver

/-- The state with the instruction whose bits are `w` (the bits from `nbits` on zero) where `step` fetches its next
instruction (log 22, 23). -/
def State.withFetchWord (s : State) (nbits w : Nat) : State :=
  s.openFetch.placeBytes (tableBytes nbits w) 0

end Sys2Proof.Machine
end

