-- ==== Sys2Proof/WellFormed.lean ====
section
/-!
DEFINITION. Well-formedness of an instruction as syntax: exactly the decoded records that some byte sequence
gives under the launch parameters the decoder reads (30_encoding R350). Each check refuses one way in which a
term of `Instr` is no decoded record.
-/
namespace Sys2Proof

/-- The sizes in the head are those the prefixes select (30_encoding R306). -/
def Head.sizesOk (m : Mode) (h : Head) : Bool :=
  h.opSize == m.opSize h.prefixes && h.addrSize == m.addrSize h.prefixes

/-- No two prefixes name different segments (30_encoding R305); `seen` is the one named so far. -/
def segmentsAgree (seen : Option Seg) : List Prefix → Bool
  | [] => true
  | p :: ps => !segmentConflict seen p && segmentsAgree (segmentAfter seen p) ps

/-- The `r/m` operand is a form of the address size, and its encoding is not that of another form
(30_encoding R315, R316, R320, R323). -/
def EOperand.ok (addrSize : Size) : EOperand → Bool
  | .reg _ => true
  | .mem16 b d => addrSize == .b16 && !(b == .bp && d == .none)
  | .direct16 _ => addrSize == .b16
  | .mem32 b d => addrSize == .b32 && b != .sp && !(b == .bp && d == .none)
  | .direct32 _ => addrSize == .b32
  | .sib _ _ b d => addrSize == .b32 && !(b == .bp && d == .none)
  | .sibNoBase _ _ _ => addrSize == .b32

/-- The ModRM part holds a well-formed operand. -/
def RmField.ok (addrSize : Size) : RmField → Bool
  | .none => true
  | .operand _ e => e.ok addrSize
  | .bits _ => true

/-- A 16-bit `Iz` or `Jz` field is held zero-extended (30_encoding R342). -/
def ImmField.ok (opSize : Size) : ImmField → Bool
  | .none => true
  | .ib _ => true
  | .iz v =>
    match opSize with
    | .b16 => v.toNat < 2 ^ 16
    | .b32 => true

/-- An alias row has the form its policy gives it (30_encoding R371). -/
def Fields.policyOk (m : Mode) (f : Fields) : Bool :=
  match f.policy with
  | none => true
  | some p => p == m.aliasPolicy

/-- Every check but the bound on the length. -/
def Instr.shapeOk (m : Mode) (i : Instr) : Bool :=
  i.head.sizesOk m && segmentsAgree none i.head.prefixes && i.fields.rm.ok i.head.addrSize
    && i.fields.imm.ok i.head.opSize && i.fields.policyOk m && i.head.len == (encode i).length

/-- The instruction is a decoded record of the block: every check, and at most 15 bytes (30_encoding R303). -/
def Instr.wellFormed (m : Mode) (i : Instr) : Bool :=
  i.shapeOk m && decide ((encode i).length ≤ maxLength)

end Sys2Proof
end

