-- ==== Sys2Proof/Safety.lean ====
section
/-!
DEFINITION. The vocabulary of the claims: the invariants of the machine, what an instruction leaves as it was, what
a store leaves behind, the operand forms of the instruction families as the spec lists them, and the values the
spec gives the flags.
-/
namespace Sys2Proof.Machine

/-! ### Invariants -/

/-- `EIP` lies within the code offset range (70_reset R1200: `eip0 < 2^codeSize`). -/
def State.eipInRange (s : State) : Prop := s.ipwrap s.eip = s.eip

/-- The run is over (70_reset R1204, R1205). -/
def State.ended (s : State) : Prop := s.status ≠ .running

/-- The statuses of R1105: a fault, a refusal, a decode fault. -/
def RunStatus.leavesState : RunStatus → Bool
  | .faulted _ => true
  | .refused _ => true
  | .fatal _ => true
  | .running => false
  | .finished => false
  | .trapped _ => false

/-! ### What an instruction leaves as it was -/

/-- The components no instruction of the block changes (10_state R110, R111, R125, R133; 70_reset R1200), and the offers
of the boundaries to come, which are the model's own field and read by `step` alone (log 16). -/
structure LaunchKept (s t : State) : Prop where
  seg : t.seg = s.seg
  flagsOther : t.flagsOther = s.flagsOther
  params : t.params = s.params
  pending : t.pending = s.pending

/-- Every byte of memory reads as before. -/
def MemoryKept (s t : State) : Prop := ∀ a, t.byteAt a = s.byteAt a

/-- Every flag reads as before. -/
def FlagsKept (s t : State) : Prop := ∀ f, t.flag f = s.flag f

/-- The instruction of head `h` completes (00_scope R14 `Done`): `EIP` at the next instruction (10_state R121), the
run status and every launch constant as before, and the accessor cache at most grown (30_encoding R336). -/
structure Completes (h : Head) (s t : State) : Prop where
  eip : t.eip = s.ipwrap (s.eip + BitVec.ofNat 32 h.len)
  status : t.status = s.status
  kept : LaunchKept s t
  cache : s.accessorCache <+: t.accessorCache

/-- Nothing changes but the run status, the accessor cache and what a read leaves in the model's own fields
(60_exceptions R1105): no register, no segment, no flag slot, no `evalCount`, no memory byte, and not `EIP`. -/
structure Untouched (s t : State) : Prop where
  gpr : t.gpr = s.gpr
  eip : t.eip = s.eip
  flags : t.flags = s.flags
  mem : t.mem = s.mem
  kept : LaunchKept s t

/-! ### What a store leaves behind -/

/-- Which byte of an access at `lin` the address `a` is, if it is one: the last `j` whose byte lies there, since the
bytes are written from the lowest up (20_memory R203). -/
def State.byteIndex (w : Width) (lin : Dword) (s : State) (a : Dword) : Option Nat :=
  (List.range w.bytes).reverse.find? fun j => s.byteAddr lin j == a

/-- From `s` to `t`, the location `l` of width `w` takes `v` and nothing else of the registers and of memory changes
(30_encoding R338; 20_memory R203, R205): a byte of RAM in the access takes its byte of `v`, every byte outside the
access reads as before. Of a memory-mapped byte in the access nothing is said (20_memory R206). -/
def Stored (w : Width) (l : Loc) (v : BitVec w.bits) (s t : State) : Prop :=
  match l with
  | .reg r => t.gpr = s.gpr.write w r v ∧ MemoryKept s t
  | .mem lin =>
    t.gpr = s.gpr ∧
      ∀ a,
        match s.byteIndex w lin a with
        | some j => s.isMmio a = false → t.byteAt a = valueByte v j
        | none => t.byteAt a = s.byteAt a

/-- No register and no byte of memory changes. -/
def NothingStored (s t : State) : Prop := t.gpr = s.gpr ∧ MemoryKept s t

/-- The interface calls of a load of a location: one read when it is memory (20_memory R201, R204). -/
def State.readCalls (w : Width) (l : Loc) (s : State) : List BusCall :=
  match l with
  | .reg _ => []
  | .mem lin => [.memRead lin w ((s.memValue w lin).setWidth 32)]

/-- The interface calls of a store to a location: one write when it is memory. -/
def writeCalls (w : Width) (l : Loc) (v : BitVec w.bits) : List BusCall :=
  match l with
  | .reg _ => []
  | .mem lin => [.memWrite lin w (v.setWidth 32)]

/-- The interface calls of a load of a source operand. -/
def State.sourceCalls (w : Width) (h : Head) (o : Operand) (s : State) : List BusCall :=
  match o with
  | .memory e => s.readCalls w (s.eLoc h e)
  | .register _ => []
  | .imm8 _ _ => []
  | .immZ _ _ => []
  | .fixed _ => []
  | .one => []

/-! ### The values of the flags -/

/-- From `s` to `t`, the flags were written with the actions `a` (40_flag_engine R440): a `Lazy` flag is pending on its
tag, an `Explicit` one holds its value, an undefined one holds some Boolean, a kept one reads as before. -/
def Wrote (a : FlagActions) (s t : State) : Prop :=
  ∀ f,
    match a.get f with
    | .lazy x => t.flags.ovr f = none ∧ t.flags.tag (groupOf f) = some x
    | .explicit b => t.flags.ovr f = some b
    | .undef => ∃ b, t.flags.ovr f = some b
    | .keep => t.flag f = s.flag f

/-- SF, ZF and PF of a result (40_flag_engine R418). -/
structure ResultFlags (w : Width) (r : BitVec w.bits) (t : State) : Prop where
  sf : t.flag .sf = r.getLsbD (w.bits - 1)
  zf : t.flag .zf = decide (r = 0#w.bits)
  pf : t.flag .pf = evenParity w r

/-- CF, AF and OF. -/
structure CarryFlags (cf af of : Bool) (t : State) : Prop where
  cf : t.flag .cf = cf
  af : t.flag .af = af
  of : t.flag .of = of

/-- Whether an integer is outside the signed range of a width (40_flag_engine R411: not `-h <= x <= h - 1`). -/
def overflows (w : Width) (x : Int) : Bool := decide (x < -(2 ^ (w.bits - 1))) || decide (2 ^ (w.bits - 1) ≤ x)

/-- `AF` of `a`, `b` and the result `r`: the carry or borrow at bit 4 (40_flag_engine R411). -/
def carryAt4 (w : Width) (a b r : BitVec w.bits) : Bool := (a ^^^ b ^^^ r).getLsbD 4

/-- The conditions by number (45_flag_consumers R910), as the table of that rule words them. -/
def State.condition (c : Cond) (s : State) : Bool :=
  match c with
  | .o => s.flag .of
  | .no => !s.flag .of
  | .b => s.flag .cf
  | .ae => !s.flag .cf
  | .e => s.flag .zf
  | .ne => !s.flag .zf
  | .be => s.flag .cf || s.flag .zf
  | .a => !s.flag .cf && !s.flag .zf
  | .s => s.flag .sf
  | .ns => !s.flag .sf
  | .p => s.flag .pf
  | .np => !s.flag .pf
  | .l => s.flag .sf ^^ s.flag .of
  | .ge => !(s.flag .sf ^^ s.flag .of)
  | .le => s.flag .zf || (s.flag .sf ^^ s.flag .of)
  | .g => !s.flag .zf && !(s.flag .sf ^^ s.flag .of)

/-! ### Operand forms of the families -/

/-- The rows of a classic operation (41_alu_binary R500), the row `82` in the form of its twin (30_encoding R371)
included. -/
inductive BinaryForm where
  | ebGb (h : Head) (r : Reg) (e : EOperand)
  | evGv (h : Head) (r : Reg) (e : EOperand)
  | gbEb (h : Head) (r : Reg) (e : EOperand)
  | gvEv (h : Head) (r : Reg) (e : EOperand)
  | alIb (h : Head) (v : BitVec 8)
  | eaxIz (h : Head) (v : BitVec 32)
  | ebIb (h : Head) (e : EOperand) (v : BitVec 8)
  | evIz (h : Head) (e : EOperand) (v : BitVec 32)
  | evIb (h : Head) (e : EOperand) (v : BitVec 8)
  | ebIb82 (h : Head) (e : EOperand) (v : BitVec 8)

/-- The rows of ADD. -/
def BinaryForm.addRow : BinaryForm → Instr
  | .ebGb h r e => .addEbGb h r e
  | .evGv h r e => .addEvGv h r e
  | .gbEb h r e => .addGbEb h r e
  | .gvEv h r e => .addGvEv h r e
  | .alIb h v => .addALIb h v
  | .eaxIz h v => .addEAXIz h v
  | .ebIb h e v => .addEbIb h e v
  | .evIz h e v => .addEvIz h e v
  | .evIb h e v => .addEvIb h e v
  | .ebIb82 h e v => .addEbIb82 h (.twin (e, v))

/-- The rows of OR. -/
def BinaryForm.orRow : BinaryForm → Instr
  | .ebGb h r e => .orEbGb h r e
  | .evGv h r e => .orEvGv h r e
  | .gbEb h r e => .orGbEb h r e
  | .gvEv h r e => .orGvEv h r e
  | .alIb h v => .orALIb h v
  | .eaxIz h v => .orEAXIz h v
  | .ebIb h e v => .orEbIb h e v
  | .evIz h e v => .orEvIz h e v
  | .evIb h e v => .orEvIb h e v
  | .ebIb82 h e v => .orEbIb82 h (.twin (e, v))

/-- The rows of ADC. -/
def BinaryForm.adcRow : BinaryForm → Instr
  | .ebGb h r e => .adcEbGb h r e
  | .evGv h r e => .adcEvGv h r e
  | .gbEb h r e => .adcGbEb h r e
  | .gvEv h r e => .adcGvEv h r e
  | .alIb h v => .adcALIb h v
  | .eaxIz h v => .adcEAXIz h v
  | .ebIb h e v => .adcEbIb h e v
  | .evIz h e v => .adcEvIz h e v
  | .evIb h e v => .adcEvIb h e v
  | .ebIb82 h e v => .adcEbIb82 h (.twin (e, v))

/-- The rows of SBB. -/
def BinaryForm.sbbRow : BinaryForm → Instr
  | .ebGb h r e => .sbbEbGb h r e
  | .evGv h r e => .sbbEvGv h r e
  | .gbEb h r e => .sbbGbEb h r e
  | .gvEv h r e => .sbbGvEv h r e
  | .alIb h v => .sbbALIb h v
  | .eaxIz h v => .sbbEAXIz h v
  | .ebIb h e v => .sbbEbIb h e v
  | .evIz h e v => .sbbEvIz h e v
  | .evIb h e v => .sbbEvIb h e v
  | .ebIb82 h e v => .sbbEbIb82 h (.twin (e, v))

/-- The rows of AND. -/
def BinaryForm.andRow : BinaryForm → Instr
  | .ebGb h r e => .andEbGb h r e
  | .evGv h r e => .andEvGv h r e
  | .gbEb h r e => .andGbEb h r e
  | .gvEv h r e => .andGvEv h r e
  | .alIb h v => .andALIb h v
  | .eaxIz h v => .andEAXIz h v
  | .ebIb h e v => .andEbIb h e v
  | .evIz h e v => .andEvIz h e v
  | .evIb h e v => .andEvIb h e v
  | .ebIb82 h e v => .andEbIb82 h (.twin (e, v))

/-- The rows of SUB. -/
def BinaryForm.subRow : BinaryForm → Instr
  | .ebGb h r e => .subEbGb h r e
  | .evGv h r e => .subEvGv h r e
  | .gbEb h r e => .subGbEb h r e
  | .gvEv h r e => .subGvEv h r e
  | .alIb h v => .subALIb h v
  | .eaxIz h v => .subEAXIz h v
  | .ebIb h e v => .subEbIb h e v
  | .evIz h e v => .subEvIz h e v
  | .evIb h e v => .subEvIb h e v
  | .ebIb82 h e v => .subEbIb82 h (.twin (e, v))

/-- The rows of XOR. -/
def BinaryForm.xorRow : BinaryForm → Instr
  | .ebGb h r e => .xorEbGb h r e
  | .evGv h r e => .xorEvGv h r e
  | .gbEb h r e => .xorGbEb h r e
  | .gvEv h r e => .xorGvEv h r e
  | .alIb h v => .xorALIb h v
  | .eaxIz h v => .xorEAXIz h v
  | .ebIb h e v => .xorEbIb h e v
  | .evIz h e v => .xorEvIz h e v
  | .evIb h e v => .xorEvIb h e v
  | .ebIb82 h e v => .xorEbIb82 h (.twin (e, v))

/-- The rows of CMP. -/
def BinaryForm.cmpRow : BinaryForm → Instr
  | .ebGb h r e => .cmpEbGb h r e
  | .evGv h r e => .cmpEvGv h r e
  | .gbEb h r e => .cmpGbEb h r e
  | .gvEv h r e => .cmpGvEv h r e
  | .alIb h v => .cmpALIb h v
  | .eaxIz h v => .cmpEAXIz h v
  | .ebIb h e v => .cmpEbIb h e v
  | .evIz h e v => .cmpEvIz h e v
  | .evIb h e v => .cmpEvIb h e v
  | .ebIb82 h e v => .cmpEbIb82 h (.twin (e, v))

/-- The row of an operation in a form (41_alu_binary R500). -/
def BinaryForm.instr (f : BinaryForm) (op : BinOp) : Instr :=
  match op with
  | .add => f.addRow
  | .or => f.orRow
  | .adc => f.adcRow
  | .sbb => f.sbbRow
  | .and => f.andRow
  | .sub => f.subRow
  | .xor => f.xorRow
  | .cmp => f.cmpRow

/-- The head of the instruction. -/
def BinaryForm.head : BinaryForm → Head
  | .ebGb h _ _ => h
  | .evGv h _ _ => h
  | .gbEb h _ _ => h
  | .gvEv h _ _ => h
  | .alIb h _ => h
  | .eaxIz h _ => h
  | .ebIb h _ _ => h
  | .evIz h _ _ => h
  | .evIb h _ _ => h
  | .ebIb82 h _ _ => h

/-- The operand width: 8 for a byte form, else the operand size (41_alu_binary R500). -/
def BinaryForm.width : BinaryForm → Width
  | .ebGb _ _ _ => .byte
  | .evGv h _ _ => h.opSize.width
  | .gbEb _ _ _ => .byte
  | .gvEv h _ _ => h.opSize.width
  | .alIb _ _ => .byte
  | .eaxIz h _ => h.opSize.width
  | .ebIb _ _ _ => .byte
  | .evIz h _ _ => h.opSize.width
  | .evIb h _ _ => h.opSize.width
  | .ebIb82 _ _ _ => .byte

/-- The destination (41_alu_binary R500). -/
def BinaryForm.dest : BinaryForm → Dest
  | .ebGb _ _ e => .memory e
  | .evGv _ _ e => .memory e
  | .gbEb _ r _ => .register r
  | .gvEv _ r _ => .register r
  | .alIb _ _ => .fixed .ax
  | .eaxIz _ _ => .fixed .ax
  | .ebIb _ e _ => .memory e
  | .evIz _ e _ => .memory e
  | .evIb _ e _ => .memory e
  | .ebIb82 _ e _ => .memory e

/-- The source: the immediate of `83` is sign-extended (41_alu_binary R500; 30_encoding R333). -/
def BinaryForm.source : BinaryForm → Operand
  | .ebGb _ r _ => .register r
  | .evGv _ r _ => .register r
  | .gbEb _ _ e => .memory e
  | .gvEv _ _ e => .memory e
  | .alIb _ v => .imm8 v false
  | .eaxIz _ v => .immZ v false
  | .ebIb _ _ v => .imm8 v false
  | .evIz _ _ v => .immZ v false
  | .evIb _ _ v => .imm8 v true
  | .ebIb82 _ _ v => .imm8 v false

/-- The location of the destination. -/
def BinaryForm.loc (f : BinaryForm) (s : State) : Loc := s.destLoc f.head f.dest

/-- `a`, the value of the destination (41_alu_binary R501). -/
def BinaryForm.left (f : BinaryForm) (s : State) : BitVec f.width.bits := s.locValue f.width (f.loc s)

/-- `b`, the value of the source (41_alu_binary R501). -/
def BinaryForm.right (f : BinaryForm) (s : State) : BitVec f.width.bits := s.operandValue f.width f.head f.source

/-- A classic operation completes with the result `r` stored, and with the interface calls of R501, newest first:
the write of a memory destination, the read of a memory source, the read of a memory destination. -/
structure BinaryForm.Stores (f : BinaryForm) (r : BitVec f.width.bits) (s t : State) : Prop where
  done : Completes f.head s t
  stored : Stored f.width (f.loc s) r s t
  calls :
    t.busLog =
      writeCalls f.width (f.loc s) r ++ s.sourceCalls f.width f.head f.source ++ s.readCalls f.width (f.loc s)
        ++ s.busLog

/-- CMP completes with nothing stored (41_alu_binary R501, R517). -/
structure BinaryForm.Compares (f : BinaryForm) (s t : State) : Prop where
  done : Completes f.head s t
  stored : NothingStored s t
  calls :
    t.busLog = s.sourceCalls f.width f.head f.source ++ s.readCalls f.width (f.loc s) ++ s.busLog

/-- The rows of TEST (41_alu_binary R518), the rows `/1` in the form of their twins (30_encoding R371) included. -/
inductive TestForm where
  | ebGb (h : Head) (r : Reg) (e : EOperand)
  | evGv (h : Head) (r : Reg) (e : EOperand)
  | alIb (h : Head) (v : BitVec 8)
  | eaxIz (h : Head) (v : BitVec 32)
  | ebIb (h : Head) (e : EOperand) (v : BitVec 8)
  | evIz (h : Head) (e : EOperand) (v : BitVec 32)
  | ebIbSlash1 (h : Head) (e : EOperand) (v : BitVec 8)
  | evIzSlash1 (h : Head) (e : EOperand) (v : BitVec 32)

/-- The row of TEST in a form. -/
def TestForm.instr : TestForm → Instr
  | .ebGb h r e => .testEbGb h r e
  | .evGv h r e => .testEvGv h r e
  | .alIb h v => .testALIb h v
  | .eaxIz h v => .testEAXIz h v
  | .ebIb h e v => .testEbIb h e v
  | .evIz h e v => .testEvIz h e v
  | .ebIbSlash1 h e v => .testEbIbSlash1 h (.twin (e, v))
  | .evIzSlash1 h e v => .testEvIzSlash1 h (.twin (e, v))

/-- The head of the instruction. -/
def TestForm.head : TestForm → Head
  | .ebGb h _ _ => h
  | .evGv h _ _ => h
  | .alIb h _ => h
  | .eaxIz h _ => h
  | .ebIb h _ _ => h
  | .evIz h _ _ => h
  | .ebIbSlash1 h _ _ => h
  | .evIzSlash1 h _ _ => h

/-- The operand width. -/
def TestForm.width : TestForm → Width
  | .ebGb _ _ _ => .byte
  | .evGv h _ _ => h.opSize.width
  | .alIb _ _ => .byte
  | .eaxIz h _ => h.opSize.width
  | .ebIb _ _ _ => .byte
  | .evIz h _ _ => h.opSize.width
  | .ebIbSlash1 _ _ _ => .byte
  | .evIzSlash1 h _ _ => h.opSize.width

/-- The first operand, which is only read. -/
def TestForm.first : TestForm → Operand
  | .ebGb _ _ e => .memory e
  | .evGv _ _ e => .memory e
  | .alIb _ _ => .fixed .ax
  | .eaxIz _ _ => .fixed .ax
  | .ebIb _ e _ => .memory e
  | .evIz _ e _ => .memory e
  | .ebIbSlash1 _ e _ => .memory e
  | .evIzSlash1 _ e _ => .memory e

/-- The second operand. -/
def TestForm.second : TestForm → Operand
  | .ebGb _ r _ => .register r
  | .evGv _ r _ => .register r
  | .alIb _ v => .imm8 v false
  | .eaxIz _ v => .immZ v false
  | .ebIb _ _ v => .imm8 v false
  | .evIz _ _ v => .immZ v false
  | .ebIbSlash1 _ _ v => .imm8 v false
  | .evIzSlash1 _ _ v => .immZ v false

/-- The bitwise AND of the operands of TEST (41_alu_binary R518). -/
def TestForm.result (f : TestForm) (s : State) : BitVec f.width.bits :=
  s.operandValue f.width f.head f.first &&& s.operandValue f.width f.head f.second

/-- An `r/m` operand of byte or operand-size width: the rows of NOT, NEG, MUL, IMUL, DIV and IDIV in groups `F6` and
`F7` (30_encoding R360). -/
inductive GroupForm where
  | eb (h : Head) (e : EOperand)
  | ev (h : Head) (e : EOperand)

/-- The head of the instruction. -/
def GroupForm.head : GroupForm → Head
  | .eb h _ => h
  | .ev h _ => h

/-- The operand width. -/
def GroupForm.width : GroupForm → Width
  | .eb _ _ => .byte
  | .ev h _ => h.opSize.width

/-- The `r/m` operand. -/
def GroupForm.operand : GroupForm → EOperand
  | .eb _ e => e
  | .ev _ e => e

/-- The rows of NOT. -/
def GroupForm.notRow : GroupForm → Instr
  | .eb h e => .notEb h e
  | .ev h e => .notEv h e

/-- The rows of NEG. -/
def GroupForm.negRow : GroupForm → Instr
  | .eb h e => .negEb h e
  | .ev h e => .negEv h e

/-- The rows of MUL. -/
def GroupForm.mulRow : GroupForm → Instr
  | .eb h e => .mulEb h e
  | .ev h e => .mulEv h e

/-- The rows of IMUL. -/
def GroupForm.imulRow : GroupForm → Instr
  | .eb h e => .imulEb h e
  | .ev h e => .imulEv h e

/-- The rows of DIV. -/
def GroupForm.divRow : GroupForm → Instr
  | .eb h e => .divEb h e
  | .ev h e => .divEv h e

/-- The rows of IDIV. -/
def GroupForm.idivRow : GroupForm → Instr
  | .eb h e => .idivEb h e
  | .ev h e => .idivEv h e

/-- The location of the operand. -/
def GroupForm.loc (f : GroupForm) (s : State) : Loc := s.eLoc f.head f.operand

/-- The value of the operand. -/
def GroupForm.value (f : GroupForm) (s : State) : BitVec f.width.bits := s.locValue f.width (f.loc s)

/-- The rows of INC and DEC (42_alu_unary R600). -/
inductive CountForm where
  | zv (h : Head) (r : Reg)
  | eb (h : Head) (e : EOperand)
  | ev (h : Head) (e : EOperand)

/-- The head of the instruction. -/
def CountForm.head : CountForm → Head
  | .zv h _ => h
  | .eb h _ => h
  | .ev h _ => h

/-- The operand width. -/
def CountForm.width : CountForm → Width
  | .zv h _ => h.opSize.width
  | .eb _ _ => .byte
  | .ev h _ => h.opSize.width

/-- The operand, which is the destination. -/
def CountForm.dest : CountForm → Dest
  | .zv _ r => .register r
  | .eb _ e => .memory e
  | .ev _ e => .memory e

/-- The rows of INC. -/
def CountForm.incRow : CountForm → Instr
  | .zv h r => .incZv h r
  | .eb h e => .incEb h e
  | .ev h e => .incEv h e

/-- The rows of DEC. -/
def CountForm.decRow : CountForm → Instr
  | .zv h r => .decZv h r
  | .eb h e => .decEb h e
  | .ev h e => .decEv h e

/-- The location of the operand. -/
def CountForm.loc (f : CountForm) (s : State) : Loc := s.destLoc f.head f.dest

/-- The value of the operand. -/
def CountForm.value (f : CountForm) (s : State) : BitVec f.width.bits := s.locValue f.width (f.loc s)

/-- The instruction completes after one load of the location, with `v` stored there. -/
structure ReadModifyWrite (h : Head) (w : Width) (l : Loc) (v : BitVec w.bits) (s t : State) : Prop where
  done : Completes h s t
  stored : Stored w l v s t
  calls : t.busLog = writeCalls w l v ++ s.readCalls w l ++ s.busLog

/-- The rows of a shift or rotate (44_shift_rotate R800). -/
inductive ShiftForm where
  | ebIb (h : Head) (e : EOperand) (v : BitVec 8)
  | evIb (h : Head) (e : EOperand) (v : BitVec 8)
  | eb1 (h : Head) (e : EOperand)
  | ev1 (h : Head) (e : EOperand)
  | ebCL (h : Head) (e : EOperand)
  | evCL (h : Head) (e : EOperand)

/-- The rows of ROL. -/
def ShiftForm.rolRow : ShiftForm → Instr
  | .ebIb h e v => .rolEbIb h e v
  | .evIb h e v => .rolEvIb h e v
  | .eb1 h e => .rolEb1 h e
  | .ev1 h e => .rolEv1 h e
  | .ebCL h e => .rolEbCL h e
  | .evCL h e => .rolEvCL h e

/-- The rows of ROR. -/
def ShiftForm.rorRow : ShiftForm → Instr
  | .ebIb h e v => .rorEbIb h e v
  | .evIb h e v => .rorEvIb h e v
  | .eb1 h e => .rorEb1 h e
  | .ev1 h e => .rorEv1 h e
  | .ebCL h e => .rorEbCL h e
  | .evCL h e => .rorEvCL h e

/-- The rows of RCL. -/
def ShiftForm.rclRow : ShiftForm → Instr
  | .ebIb h e v => .rclEbIb h e v
  | .evIb h e v => .rclEvIb h e v
  | .eb1 h e => .rclEb1 h e
  | .ev1 h e => .rclEv1 h e
  | .ebCL h e => .rclEbCL h e
  | .evCL h e => .rclEvCL h e

/-- The rows of RCR. -/
def ShiftForm.rcrRow : ShiftForm → Instr
  | .ebIb h e v => .rcrEbIb h e v
  | .evIb h e v => .rcrEvIb h e v
  | .eb1 h e => .rcrEb1 h e
  | .ev1 h e => .rcrEv1 h e
  | .ebCL h e => .rcrEbCL h e
  | .evCL h e => .rcrEvCL h e

/-- The rows of SHL. -/
def ShiftForm.shlRow : ShiftForm → Instr
  | .ebIb h e v => .shlEbIb h e v
  | .evIb h e v => .shlEvIb h e v
  | .eb1 h e => .shlEb1 h e
  | .ev1 h e => .shlEv1 h e
  | .ebCL h e => .shlEbCL h e
  | .evCL h e => .shlEvCL h e

/-- The rows of SHR. -/
def ShiftForm.shrRow : ShiftForm → Instr
  | .ebIb h e v => .shrEbIb h e v
  | .evIb h e v => .shrEvIb h e v
  | .eb1 h e => .shrEb1 h e
  | .ev1 h e => .shrEv1 h e
  | .ebCL h e => .shrEbCL h e
  | .evCL h e => .shrEvCL h e

/-- The rows of SAR. -/
def ShiftForm.sarRow : ShiftForm → Instr
  | .ebIb h e v => .sarEbIb h e v
  | .evIb h e v => .sarEvIb h e v
  | .eb1 h e => .sarEb1 h e
  | .ev1 h e => .sarEv1 h e
  | .ebCL h e => .sarEbCL h e
  | .evCL h e => .sarEvCL h e

/-- The rows `/6`, copies of SHL, in the form of their twins (30_encoding R371). -/
def ShiftForm.shlRow6 : ShiftForm → Instr
  | .ebIb h e v => .shlEbIbSlash6 h (.twin (e, v))
  | .evIb h e v => .shlEvIbSlash6 h (.twin (e, v))
  | .eb1 h e => .shlEb1Slash6 h (.twin e)
  | .ev1 h e => .shlEv1Slash6 h (.twin e)
  | .ebCL h e => .shlEbCLSlash6 h (.twin e)
  | .evCL h e => .shlEvCLSlash6 h (.twin e)

/-- The row of an operation in a form. -/
def ShiftForm.instr (f : ShiftForm) (op : ShiftOp) : Instr :=
  match op with
  | .rol => f.rolRow
  | .ror => f.rorRow
  | .rcl => f.rclRow
  | .rcr => f.rcrRow
  | .shl => f.shlRow
  | .shr => f.shrRow
  | .sar => f.sarRow

/-- The head of the instruction. -/
def ShiftForm.head : ShiftForm → Head
  | .ebIb h _ _ => h
  | .evIb h _ _ => h
  | .eb1 h _ => h
  | .ev1 h _ => h
  | .ebCL h _ => h
  | .evCL h _ => h

/-- The operand width. -/
def ShiftForm.width : ShiftForm → Width
  | .ebIb _ _ _ => .byte
  | .evIb h _ _ => h.opSize.width
  | .eb1 _ _ => .byte
  | .ev1 h _ => h.opSize.width
  | .ebCL _ _ => .byte
  | .evCL h _ => h.opSize.width

/-- The destination. -/
def ShiftForm.operand : ShiftForm → EOperand
  | .ebIb _ e _ => e
  | .evIb _ e _ => e
  | .eb1 _ e => e
  | .ev1 _ e => e
  | .ebCL _ e => e
  | .evCL _ e => e

/-- The count operand: the immediate byte, the constant 1, or `CL` (44_shift_rotate R800). -/
def ShiftForm.countByte (f : ShiftForm) (s : State) : BitVec 8 :=
  match f with
  | .ebIb _ _ v => v
  | .evIb _ _ v => v
  | .eb1 _ _ => 1#8
  | .ev1 _ _ => 1#8
  | .ebCL _ _ => s.readReg .byte .cx
  | .evCL _ _ => s.readReg .byte .cx

/-- The masked count: the operand modulo 32 (44_shift_rotate R801). -/
def ShiftForm.count (f : ShiftForm) (s : State) : Nat := (f.countByte s).toNat % 32

/-- The location of the destination. -/
def ShiftForm.loc (f : ShiftForm) (s : State) : Loc := s.eLoc f.head f.operand

/-- `a`, the value of the destination before the shift. -/
def ShiftForm.value (f : ShiftForm) (s : State) : BitVec f.width.bits := s.locValue f.width (f.loc s)

/-- `x` rotated left by `n` places is `y`: the bit at `i` goes to `(i + n) mod k` (40_flag_engine R417). -/
def RotatedLeft {k : Nat} (x : BitVec k) (n : Nat) (y : BitVec k) : Prop :=
  ∀ i, i < k → y.getLsbD ((i + n) % k) = x.getLsbD i

/-- The ring of a rotate through carry: the carry above the operand (40_flag_engine R417: `b * 2^n + a`). -/
def carryRing (w : Width) (b : Bool) (a : BitVec w.bits) : BitVec (w.bits + 1) :=
  (BitVec.ofBool b).setWidth (w.bits + 1) <<< w.bits ||| a.setWidth (w.bits + 1)

/-- The rows of a conditional jump: an offset of 8 bits, or of the operand size (30_encoding R364). -/
inductive JumpForm where
  | short (h : Head) (v : BitVec 8)
  | near (h : Head) (v : BitVec 32)

/-- The row of a condition in a form (45_flag_consumers R930-R945). -/
def JumpForm.instr (f : JumpForm) (c : Cond) : Instr :=
  match f with
  | .short h v =>
    match c with
    | .o => .joJb h v
    | .no => .jnoJb h v
    | .b => .jbJb h v
    | .ae => .jaeJb h v
    | .e => .jeJb h v
    | .ne => .jneJb h v
    | .be => .jbeJb h v
    | .a => .jaJb h v
    | .s => .jsJb h v
    | .ns => .jnsJb h v
    | .p => .jpJb h v
    | .np => .jnpJb h v
    | .l => .jlJb h v
    | .ge => .jgeJb h v
    | .le => .jleJb h v
    | .g => .jgJb h v
  | .near h v =>
    match c with
    | .o => .joJz h v
    | .no => .jnoJz h v
    | .b => .jbJz h v
    | .ae => .jaeJz h v
    | .e => .jeJz h v
    | .ne => .jneJz h v
    | .be => .jbeJz h v
    | .a => .jaJz h v
    | .s => .jsJz h v
    | .ns => .jnsJz h v
    | .p => .jpJz h v
    | .np => .jnpJz h v
    | .l => .jlJz h v
    | .ge => .jgeJz h v
    | .le => .jleJz h v
    | .g => .jgJz h v

/-- The head of the instruction. -/
def JumpForm.head : JumpForm → Head
  | .short h _ => h
  | .near h _ => h

/-- The offset as an integer: the field is sign-extended from 8 bits, or from the operand size (45_flag_consumers
R920). -/
def JumpForm.offset : JumpForm → Int
  | .short _ v => v.toInt
  | .near h v =>
    match h.opSize with
    | .b16 => (v.setWidth 16).toInt
    | .b32 => v.toInt

/-- An integer reduced to a size (00_scope R10). -/
def truncInt (z : Size) (x : Int) : Dword :=
  match z with
  | .b16 => BitVec.ofInt 32 (x % 2 ^ 16)
  | .b32 => BitVec.ofInt 32 (x % 2 ^ 32)

/-- The target of a taken jump (45_flag_consumers R920): `EIP + len + sx(rel)` over the integers, reduced to the
operand size and then to the code size. -/
def JumpForm.target (f : JumpForm) (s : State) : Dword :=
  truncInt s.params.codeSize (truncInt f.head.opSize (s.eip.toNat + f.head.len + f.offset)).toNat

/-- The row of SETcc of a condition (45_flag_consumers R950-R965). -/
def setccRow (c : Cond) (h : Head) (r : Reg) (e : EOperand) : Instr :=
  match c with
  | .o => .setoEb h r e
  | .no => .setnoEb h r e
  | .b => .setbEb h r e
  | .ae => .setaeEb h r e
  | .e => .seteEb h r e
  | .ne => .setneEb h r e
  | .be => .setbeEb h r e
  | .a => .setaEb h r e
  | .s => .setsEb h r e
  | .ns => .setnsEb h r e
  | .p => .setpEb h r e
  | .np => .setnpEb h r e
  | .l => .setlEb h r e
  | .ge => .setgeEb h r e
  | .le => .setleEb h r e
  | .g => .setgEb h r e

/-- The rows of IN or OUT (46_io_interrupt R1000): the port an immediate byte or `DX`, the data `AL` or `eAX`. -/
inductive PortForm where
  | ibByte (h : Head) (v : BitVec 8)
  | ibWide (h : Head) (v : BitVec 8)
  | dxByte (h : Head)
  | dxWide (h : Head)

/-- The head of the instruction. -/
def PortForm.head : PortForm → Head
  | .ibByte h _ => h
  | .ibWide h _ => h
  | .dxByte h => h
  | .dxWide h => h

/-- The width of the transfer. -/
def PortForm.width : PortForm → Width
  | .ibByte _ _ => .byte
  | .ibWide h _ => h.opSize.width
  | .dxByte _ => .byte
  | .dxWide h => h.opSize.width

/-- The port number (46_io_interrupt R1000). -/
def PortForm.port (f : PortForm) (s : State) : BitVec 16 :=
  match f with
  | .ibByte _ v => v.setWidth 16
  | .ibWide _ v => v.setWidth 16
  | .dxByte _ => s.readReg .word .dx
  | .dxWide _ => s.readReg .word .dx

/-- The rows of IN. -/
def PortForm.inRow : PortForm → Instr
  | .ibByte h v => .inALIb h v
  | .ibWide h v => .inEAXIb h v
  | .dxByte h => .inALDX h
  | .dxWide h => .inEAXDX h

/-- The rows of OUT. -/
def PortForm.outRow : PortForm → Instr
  | .ibByte h v => .outIbAL h v
  | .ibWide h v => .outIbEAX h v
  | .dxByte h => .outDXAL h
  | .dxWide h => .outDXEAX h

/-- The rows that raise `#UD`, with the fields of their ModRM byte: the alias rows under `undefinedOpcode` and the
undefined rows (60_exceptions R1102). -/
inductive UndefinedRow where
  | addEbIb82
  | orEbIb82
  | adcEbIb82
  | sbbEbIb82
  | andEbIb82
  | subEbIb82
  | xorEbIb82
  | cmpEbIb82
  | testEbIbSlash1
  | testEvIzSlash1
  | undefinedFE2
  | undefinedFE3
  | undefinedFE4
  | undefinedFE5
  | undefinedFE6
  | undefinedFE7
  | undefinedFF7
  | shlEbIbSlash6
  | shlEvIbSlash6
  | shlEb1Slash6
  | shlEv1Slash6
  | shlEbCLSlash6
  | shlEvCLSlash6

/-- The instruction of a row that raises `#UD`. -/
def UndefinedRow.instr (u : UndefinedRow) (h : Head) (m : ModRmBits) : Instr :=
  match u with
  | .addEbIb82 => .addEbIb82 h (.undefinedOpcode m)
  | .orEbIb82 => .orEbIb82 h (.undefinedOpcode m)
  | .adcEbIb82 => .adcEbIb82 h (.undefinedOpcode m)
  | .sbbEbIb82 => .sbbEbIb82 h (.undefinedOpcode m)
  | .andEbIb82 => .andEbIb82 h (.undefinedOpcode m)
  | .subEbIb82 => .subEbIb82 h (.undefinedOpcode m)
  | .xorEbIb82 => .xorEbIb82 h (.undefinedOpcode m)
  | .cmpEbIb82 => .cmpEbIb82 h (.undefinedOpcode m)
  | .testEbIbSlash1 => .testEbIbSlash1 h (.undefinedOpcode m)
  | .testEvIzSlash1 => .testEvIzSlash1 h (.undefinedOpcode m)
  | .undefinedFE2 => .undefinedFE2 h m
  | .undefinedFE3 => .undefinedFE3 h m
  | .undefinedFE4 => .undefinedFE4 h m
  | .undefinedFE5 => .undefinedFE5 h m
  | .undefinedFE6 => .undefinedFE6 h m
  | .undefinedFE7 => .undefinedFE7 h m
  | .undefinedFF7 => .undefinedFF7 h m
  | .shlEbIbSlash6 => .shlEbIbSlash6 h (.undefinedOpcode m)
  | .shlEvIbSlash6 => .shlEvIbSlash6 h (.undefinedOpcode m)
  | .shlEb1Slash6 => .shlEb1Slash6 h (.undefinedOpcode m)
  | .shlEv1Slash6 => .shlEv1Slash6 h (.undefinedOpcode m)
  | .shlEbCLSlash6 => .shlEbCLSlash6 h (.undefinedOpcode m)
  | .shlEvCLSlash6 => .shlEvCLSlash6 h (.undefinedOpcode m)

/-! ### Products, quotients, images -/

/-- The registers after a product `p` is placed (43_muldiv R700, R710): `AX`, `DX:AX` or `EDX:EAX`. -/
def storeProduct (w : Width) (p : Nat) (g : Gpr) : Gpr :=
  match w with
  | .byte => g.write .word .ax (BitVec.ofNat 16 p)
  | .word => (g.write .word .ax (BitVec.ofNat 16 p)).write .word .dx (BitVec.ofNat 16 (p / 2 ^ 16))
  | .dword => (g.write .dword .ax (BitVec.ofNat 32 p)).write .dword .dx (BitVec.ofNat 32 (p / 2 ^ 32))

/-- The dividend (43_muldiv R700, R720): `AX`, `DX:AX` or `EDX:EAX` as a number. -/
def dividendOf (w : Width) (g : Gpr) : Nat :=
  match w with
  | .byte => (g.read .word .ax).toNat
  | .word => (g.read .word .dx).toNat * 2 ^ 16 + (g.read .word .ax).toNat
  | .dword => (g.read .dword .dx).toNat * 2 ^ 32 + (g.read .dword .ax).toNat

/-- The dividend as a signed integer of double width (43_muldiv R721: `sx_2n`). -/
def signedDividendOf (w : Width) (g : Gpr) : Int :=
  if dividendOf w g < 2 ^ (2 * w.bits - 1) then (dividendOf w g : Int) else (dividendOf w g : Int) - 2 ^ (2 * w.bits)

/-- The registers after quotient `q` and remainder `r` are placed (43_muldiv R700, R720). -/
def storeQuotient (w : Width) (q r : Int) (g : Gpr) : Gpr :=
  match w with
  | .byte => (g.write .byte .ax (BitVec.ofInt 8 q)).write .byte .sp (BitVec.ofInt 8 r)
  | .word => (g.write .word .ax (BitVec.ofInt 16 q)).write .word .dx (BitVec.ofInt 16 r)
  | .dword => (g.write .dword .ax (BitVec.ofInt 32 q)).write .dword .dx (BitVec.ofInt 32 r)

/-- The one-byte opcodes outside the block (30_encoding R361). -/
def outsideOneByte (n : Nat) : Bool :=
  [0x06, 0x07, 0x0E, 0x16, 0x17, 0x1E, 0x1F, 0x27, 0x2F, 0x37, 0x3F, 0x68, 0x6A, 0xCF, 0xF1, 0xF4].contains n
    || (0x50 ≤ n && n ≤ 0x63) || (0x6C ≤ n && n ≤ 0x6F) || (0x86 ≤ n && n ≤ 0x9D) || (0xA0 ≤ n && n ≤ 0xA7)
    || (0xAA ≤ n && n ≤ 0xBF) || (0xC2 ≤ n && n ≤ 0xCB) || (0xD4 ≤ n && n ≤ 0xE3) || (0xE8 ≤ n && n ≤ 0xEB)
    || (0xFA ≤ n && n ≤ 0xFD)

/-- The second opcode bytes outside the block (30_encoding R361). -/
def outsideTwoByte (n : Nat) : Bool := !((0x80 ≤ n && n ≤ 0x9F) || n == 0xAF)

/-- Whether an interface call is a memory read. -/
def BusCall.isMemRead : BusCall → Bool
  | .memRead _ _ _ => true
  | .memWrite _ _ _ => false
  | .portRead _ _ _ => false
  | .portWrite _ _ _ => false

end Sys2Proof.Machine
end

