-- ==== Sys2Proof/Certificates/Slice0/Obligations.lean ====
section
/-!
DEFINITION. The statements for the provers. `t` is the state an instruction or a step answers from `s`.
-/

section ObligationText

open Sys2Proof Sys2Proof.Machine

/-- O1. Words written out from the encoding tables decode to the instructions they stand for. Words of every family, written out bit by bit from 30_encoding R310 and R355-R370, decode to their rows. -/
def Obligations.SpecWordsDecode : Prop :=
  let m : Mode := Config.launch.mode
  let h (n : Nat) : Head := { prefixes := [], opSize := .b16, addrSize := .b16, len := n }
  decode m [0x04#8, 0x10#8] = ⟨.instr (.addALIb (h 2) 0x10#8), 2⟩ ∧
    decode m [0x83#8, 0xEC#8, 0x08#8] = ⟨.instr (.subEvIb (h 3) (.reg .sp) 0x08#8), 3⟩ ∧
    decode m [0x46#8] = ⟨.instr (.incZv (h 1) .si), 1⟩ ∧
    decode m [0xF7#8, 0xD8#8] = ⟨.instr (.negEv (h 2) (.reg .ax)), 2⟩ ∧
    decode m [0x6B#8, 0xC3#8, 0xFD#8] = ⟨.instr (.imulGvEvIb (h 3) .ax (.reg .bx) 0xFD#8), 3⟩ ∧
    decode m [0xD3#8, 0xE0#8] = ⟨.instr (.shlEvCL (h 2) (.reg .ax)), 2⟩ ∧
    decode m [0xF5#8] = ⟨.instr (.cmc (h 1)), 1⟩ ∧
    decode m [0x75#8, 0xFC#8] = ⟨.instr (.jneJb (h 2) 0xFC#8), 2⟩ ∧
    decode m [0x0F#8, 0x94#8, 0xC1#8] = ⟨.instr (.seteEb (h 3) .ax (.reg .cx)), 3⟩ ∧
    decode m [0xE4#8, 0x60#8] = ⟨.instr (.inALIb (h 2) 0x60#8), 2⟩ ∧
    decode m [0xCD#8, 0x21#8] = ⟨.instr (.intIb (h 2) 0x21#8), 2⟩ ∧
    decode m [0xFE#8, 0xD7#8] = ⟨.instr (.undefinedFE2 (h 2) { mod := 3#2, rm := 7#3 }), 2⟩

/-- O2. Decoding the encoding of any well-formed instruction gives it back, whatever bytes follow. No bit of an encoding is dropped: prefixes, ModRM, SIB, displacement and immediate come back (30_encoding R300, R350). -/
def Obligations.DecodeOfEncode : Prop :=
  ∀ (m : Mode) (i : Instr) (rest : List Byte), i.wellFormed m = true →
    decode m (encode i ++ rest) = { outcome := .instr i, len := (encode i).length }

/-- O3. Every decoded instruction is well-formed and its encoding is the bytes that were read. Each word has one meaning: the decoder loses nothing of the bytes it reads and makes no ill-formed record (30_encoding R350). -/
def Obligations.EncodeOfDecode : Prop :=
  ∀ (m : Mode) (bytes : List Byte) (i : Instr), (decode m bytes).outcome = .instr i →
    i.wellFormed m = true ∧ encode i = bytes.take (decode m bytes).len ∧ i.head.len = (decode m bytes).len

/-- O4. Operand and address size of a decoded instruction follow from code size and prefixes. 30_encoding R306. -/
def Obligations.SizesOfPrefixes : Prop :=
  ∀ (m : Mode) (bytes : List Byte) (i : Instr), (decode m bytes).outcome = .instr i →
    bytes.take i.head.prefixes.length = i.head.prefixes.map Prefix.toByte ∧
      i.head.opSize =
        (if 0x66#8 ∈ bytes.take i.head.prefixes.length then
          (match m.codeSize with | .b16 => .b32 | .b32 => .b16) else m.codeSize) ∧
      i.head.addrSize =
        (if 0x67#8 ∈ bytes.take i.head.prefixes.length then
          (match m.codeSize with | .b16 => .b32 | .b32 => .b16) else m.codeSize)

/-- O5. No decode reads a 16th byte; an instruction that needs one is refused as TooLong. 30_encoding R303. `Instr.shapeOk` is every check of a well-formed instruction but the bound of 15 bytes, and the sequence is `encode i ++ rest` among others. -/
def Obligations.LengthLimit : Prop :=
  ∀ (m : Mode) (bytes : List Byte),
    (decode m bytes).len ≤ 15 ∧
      (∀ i : Instr, i.shapeOk m = true → 15 < (encode i).length → bytes.take 15 = (encode i).take 15 →
        decode m bytes = { outcome := .refuse .tooLong, len := 15 }) ∧
      (∀ ps : List Prefix, segmentsAgree none ps = true → ps.length = 15 →
        bytes.take 15 = ps.map Prefix.toByte → decode m bytes = { outcome := .refuse .tooLong, len := 15 }) ∧
      (15 ≤ bytes.length → (decode m bytes).outcome = .refuse .tooLong → (decode m bytes).len = 15)

/-- O6. LOCK, REP and a second, different segment override are refused at the prefix byte. 30_encoding R305; the first condition met in byte order wins (60_exceptions R1110). -/
def Obligations.RefusedPrefixes : Prop :=
  ∀ (m : Mode) (ps : List Prefix) (rest : List Byte), segmentsAgree none ps = true → ps.length < 15 →
    decode m (ps.map Prefix.toByte ++ 0xF0#8 :: rest) = ⟨.refuse .lockPrefix, ps.length + 1⟩ ∧
      decode m (ps.map Prefix.toByte ++ 0xF2#8 :: rest) = ⟨.refuse .repPrefix, ps.length + 1⟩ ∧
      decode m (ps.map Prefix.toByte ++ 0xF3#8 :: rest) = ⟨.refuse .repPrefix, ps.length + 1⟩ ∧
      ∀ x y : Seg, .seg x ∈ ps → x ≠ y →
        decode m (ps.map Prefix.toByte ++ (Prefix.seg y).toByte :: rest) =
          ⟨.refuse .multipleSegmentOverrides, ps.length + 1⟩

/-- O7. Opcodes outside the block are refused as NotInBlock at the byte that shows it. 30_encoding R361. -/
def Obligations.OutsideOpcodesRefused : Prop :=
  ∀ (m : Mode) (ps : List Prefix) (b : Byte) (rest : List Byte), segmentsAgree none ps = true →
    (ps.length < 15 → outsideOneByte b.toNat = true →
      decode m (ps.map Prefix.toByte ++ b :: rest) = ⟨.refuse .notInBlock, ps.length + 1⟩) ∧
      (ps.length < 14 → outsideTwoByte b.toNat = true →
        decode m (ps.map Prefix.toByte ++ 0x0F#8 :: b :: rest) = ⟨.refuse .notInBlock, ps.length + 2⟩) ∧
      (ps.length < 14 → 2 ≤ (regField b).toNat → (regField b).toNat ≤ 6 →
        decode m (ps.map Prefix.toByte ++ 0xFF#8 :: b :: rest) = ⟨.refuse .notInBlock, ps.length + 2⟩)

/-- O8. A row that raises #UD is decoded from its opcode and ModRM byte alone. 60_exceptions R1102: detected after the ModRM byte and before any displacement or immediate byte. An alias row is one whose fields carry the policy it was read under. -/
def Obligations.UndefinedRowsReadNoOperand : Prop :=
  ∀ (m : Mode) (bytes : List Byte),
    (∀ (u : UndefinedRow) (h : Head) (x : ModRmBits), (decode m bytes).outcome = .instr (u.instr h x) →
      (decode m bytes).len = h.prefixes.length + 2 ∧
        ((u.instr h x).fields.policy = none ∨ m.aliasPolicy = .undefinedOpcode)) ∧
      ∀ i : Instr, (decode m bytes).outcome = .instr i → i.fields.policy ≠ none → m.aliasPolicy = .undefinedOpcode →
        ∃ (u : UndefinedRow) (x : ModRmBits), i = u.instr i.head x

/-- O9. No byte sequence makes the decoder end in a decode fault, and a decode fault would end the run. 60_exceptions R1104. -/
def Obligations.NoDecodeFault : Prop :=
  (∀ (m : Mode) (bytes : List Byte) (r : DecodeFaultReason), (decode m bytes).outcome ≠ .fatal r) ∧
    ∀ (s : State) (r : DecodeFaultReason),
      s.decodeFault r = { s with status := .fatal r } ∧ step (s.decodeFault r) = .fault .runOver

/-- O10. A decode depends on the mode and the bytes it reads alone. 30_encoding R350: decode is a function of the bytes fetched, in stream order. -/
def Obligations.DecodeReadsItsBytesAlone : Prop :=
  ∀ (m : Mode) (x y : List Byte), 15 ≤ x.length → 15 ≤ y.length →
    x.take (decode m x).len = y.take (decode m x).len → decode m y = decode m x

/-- O11. The 32-, 16- and 8-bit views of the registers: what a read gives and what a write leaves. 10_state R101, R102, R103. -/
def Obligations.RegisterViews : Prop :=
  ∀ (g : Gpr) (r : Reg),
    (g.read .dword r = g.get r ∧ g.read .word r = (g.get r).extractLsb' 0 16 ∧
        g.read .byte .ax = g.eax.extractLsb' 0 8 ∧ g.read .byte .cx = g.ecx.extractLsb' 0 8 ∧
        g.read .byte .dx = g.edx.extractLsb' 0 8 ∧ g.read .byte .bx = g.ebx.extractLsb' 0 8 ∧
        g.read .byte .sp = g.eax.extractLsb' 8 8 ∧ g.read .byte .bp = g.ecx.extractLsb' 8 8 ∧
        g.read .byte .si = g.edx.extractLsb' 8 8 ∧ g.read .byte .di = g.ebx.extractLsb' 8 8) ∧
      (∀ v : BitVec 32, (g.write .dword r v).get r = v) ∧
      (∀ (v : BitVec 16) (i : Nat),
        ((g.write .word r v).get r).getLsbD i = if i < 16 then v.getLsbD i else (g.get r).getLsbD i) ∧
      (∀ (v : BitVec 8) (i : Nat),
        ((g.write .byte r v).get (viewHome .byte r)).getLsbD i =
          match r with
          | .ax | .cx | .dx | .bx => if i < 8 then v.getLsbD i else (g.get (viewHome .byte r)).getLsbD i
          | .sp | .bp | .si | .di =>
            if 8 ≤ i ∧ i < 16 then v.getLsbD (i - 8) else (g.get (viewHome .byte r)).getLsbD i) ∧
      (∀ (w : Width) (v : BitVec w.bits) (x : Reg), x ≠ viewHome w r → (g.write w r v).get x = g.get x)

/-- O12. Memory accesses are little-endian, byte j at (lin + j) mod 2^32 masked. 20_memory R203. -/
def Obligations.ByteOrder : Prop :=
  ∀ (s : State) (w : Width) (lin : Dword),
    (∀ j, s.byteAddr lin j = BitVec.ofNat 32 (lin.toNat + j) &&& s.params.linearMask) ∧
      (s.touchesMmio w lin = false →
        (s.memRead w lin).1.toNat =
          ((List.range w.bytes).map fun j => (s.byteAt (s.byteAddr lin j)).toNat * 256 ^ j).sum) ∧
      ∀ (v : BitVec w.bits), s.touchesMmio w lin = false →
        (∀ j, j < w.bytes → (∀ i, i < w.bytes → j < i → s.byteAddr lin i ≠ s.byteAddr lin j) →
          (s.memWrite w lin v).byteAt (s.byteAddr lin j) = v.extractLsb' (8 * j) 8) ∧
        ∀ a, (∀ j, j < w.bytes → s.byteAddr lin j ≠ a) → (s.memWrite w lin v).byteAt a = s.byteAt a

/-- O13. A read of RAM gives the value of the last write, at its width and at a narrower one. 20_memory R205: the value of the last write to that byte. -/
def Obligations.MemoryReadAfterWrite : Prop :=
  ∀ (s : State) (w : Width) (lin : Dword) (v v' : BitVec w.bits), s.touchesMmio w lin = false →
    (∀ i j, i < w.bytes → j < w.bytes → s.byteAddr lin i = s.byteAddr lin j → i = j) →
      ((s.memWrite w lin v).memRead w lin).1 = v ∧
        (∀ j, j < w.bytes → ((s.memWrite w lin v).memRead .byte (s.byteAddr lin j)).1 = v.extractLsb' (8 * j) 8) ∧
        (((s.memWrite w lin v).memWrite w lin v').memRead w lin).1 = v'

/-- O14. 16-bit addressing: the offset is the table's sum modulo 2^16, in SS when the base involves BP, else DS. 30_encoding R315-R318, R327. -/
def Obligations.EffectiveAddress16 : Prop :=
  ∀ (h : Head) (s : State) (d : Disp16) (x : BitVec 16),
    let disp : Int := match d with | .none => 0 | .d8 v => v.toInt | .d16 v => v.toNat
    let r16 (r : Reg) : Int := (s.readReg .word r).toNat
    let at16 (seg : Seg) (sum : Int) : Loc :=
      .mem ((s.segBase (h.segmentOverride.getD seg) + BitVec.ofInt 32 (sum % 2 ^ 16)) &&& s.params.linearMask)
    s.eLoc h (.mem16 .bxSi d) = at16 .ds (r16 .bx + r16 .si + disp) ∧
      s.eLoc h (.mem16 .bxDi d) = at16 .ds (r16 .bx + r16 .di + disp) ∧
      s.eLoc h (.mem16 .bpSi d) = at16 .ss (r16 .bp + r16 .si + disp) ∧
      s.eLoc h (.mem16 .bpDi d) = at16 .ss (r16 .bp + r16 .di + disp) ∧
      s.eLoc h (.mem16 .si d) = at16 .ds (r16 .si + disp) ∧
      s.eLoc h (.mem16 .di d) = at16 .ds (r16 .di + disp) ∧
      s.eLoc h (.mem16 .bp d) = at16 .ss (r16 .bp + disp) ∧
      s.eLoc h (.mem16 .bx d) = at16 .ds (r16 .bx + disp) ∧
      s.eLoc h (.direct16 x) = at16 .ds x.toNat

/-- O15. 32-bit addressing: base + (index << scale) + displacement modulo 2^32, index 4 none, and its segment. 30_encoding R320-R325, R327. -/
def Obligations.EffectiveAddress32 : Prop :=
  ∀ (h : Head) (s : State) (b i : Reg) (sc : BitVec 2) (d : Disp32) (x : BitVec 32),
    let disp : Int := match d with | .none => 0 | .d8 v => v.toInt | .d32 v => v.toNat
    let r32 (r : Reg) : Int := (s.readReg .dword r).toNat
    let index : Int := if i = .sp then 0 else r32 i * 2 ^ sc.toNat
    let at32 (seg : Seg) (sum : Int) : Loc :=
      .mem ((s.segBase (h.segmentOverride.getD seg) + BitVec.ofInt 32 (sum % 2 ^ 32)) &&& s.params.linearMask)
    let esp : Seg := match s.params.espBaseSegment with | .ds => .ds | .ss => .ss
    (b ≠ .sp → s.eLoc h (.mem32 b d) = at32 (if b = .bp then .ss else .ds) (r32 b + disp)) ∧
      s.eLoc h (.direct32 x) = at32 .ds x.toNat ∧
      s.eLoc h (.sib sc i b d) =
        at32 (if b = .bp then .ss else if b = .sp then esp else .ds) (r32 b + index + disp) ∧
      s.eLoc h (.sibNoBase sc i x) = at32 .ds (index + x.toNat)

/-- O16. Reading a flag twice gives the same value, and the second read evaluates nothing. 40_flag_engine R431. -/
def Obligations.FlagReadOnce : Prop :=
  ∀ (s : State) (f : Flag),
    ((s.readFlag f).2.readFlag f).1 = (s.readFlag f).1 ∧
      ((s.readFlag f).2.readFlag f).2.flags.evalCount = (s.readFlag f).2.flags.evalCount ∧
      ((s.readFlag f).2.readFlag f).2 = (s.readFlag f).2

/-- O17. Reading a flag: the override if it is full, else the tag's value, counted and cached, the tag kept. 40_flag_engine R430. -/
def Obligations.FlagRead : Prop :=
  ∀ (s : State) (f : Flag), s.flags.valid = true →
    (∀ v, s.flags.ovr f = some v → s.readFlag f = (v, s)) ∧
      (s.flags.ovr f = none → ∃ x v, s.flags.tag (groupOf f) = some x ∧ evalFlag f x = some v ∧
        (s.readFlag f).1 = v ∧
        (s.readFlag f).2 = s.setFlags (s.readFlag f).2.flags ∧
        (s.readFlag f).2.flags.evalCount = s.flags.evalCount + 1 ∧
        (∀ g, (s.readFlag f).2.flags.tag g = s.flags.tag g) ∧
        ∀ g, (s.readFlag f).2.flags.ovr g = if g = f then some v else s.flags.ovr g)

/-- O18. write flags: lazy flags pend on their tag, explicit ones hold their value, kept ones keep theirs. 40_flag_engine R440: the group update, with its materialisation of what is kept (90_conflicts C1). -/
def Obligations.FlagWrite : Prop :=
  ∀ (a : FlagActions) (s : State), (∀ f x, a.get f = .lazy x → groupTag a (groupOf f) = some x) →
    Wrote a s (s.writeFlags a) ∧
      s.writeFlags a = (s.setFlags (s.writeFlags a).flags).setDraws (s.writeFlags a).draws

/-- O19. The truth tables of the add, subtract, multiply and value tags. 40_flag_engine R411-R415, R418. -/
def Obligations.TruthTablesArithmetic : Prop :=
  ∀ (w : Width) (a b r : BitVec w.bits) (c : Bool),
    (evalFlag .cf (.add w a b) = some (decide (2 ^ w.bits ≤ a.toNat + b.toNat)) ∧
        evalFlag .af (.add w a b) = some (carryAt4 w a b (a + b)) ∧
        evalFlag .of (.add w a b) = some (overflows w (a.toInt + b.toInt))) ∧
      (evalFlag .cf (.adc w a b c) = some (decide (2 ^ w.bits ≤ a.toNat + b.toNat + c.toNat)) ∧
        evalFlag .af (.adc w a b c) = some (carryAt4 w a b (a + b + BitVec.ofNat w.bits c.toNat)) ∧
        evalFlag .of (.adc w a b c) = some (overflows w (a.toInt + b.toInt + c.toNat))) ∧
      (evalFlag .cf (.sub w a b) = some (decide (a.toNat < b.toNat)) ∧
        evalFlag .af (.sub w a b) = some (carryAt4 w a b (a - b)) ∧
        evalFlag .of (.sub w a b) = some (overflows w (a.toInt - b.toInt))) ∧
      (evalFlag .cf (.sbb w a b c) = some (decide (a.toNat < b.toNat + c.toNat)) ∧
        evalFlag .af (.sbb w a b c) = some (carryAt4 w a b (a - b - BitVec.ofNat w.bits c.toNat)) ∧
        evalFlag .of (.sbb w a b c) = some (overflows w (a.toInt - b.toInt - c.toNat))) ∧
      (evalFlag .cf (.mul w a b) = some (decide (2 ^ w.bits ≤ a.toNat * b.toNat)) ∧
        evalFlag .of (.mul w a b) = some (decide (2 ^ w.bits ≤ a.toNat * b.toNat))) ∧
      (evalFlag .cf (.imul w a b) = some (overflows w (a.toInt * b.toInt)) ∧
        evalFlag .of (.imul w a b) = some (overflows w (a.toInt * b.toInt))) ∧
      (evalFlag .cf (.imul23 w a b) = some (overflows w (a.toInt * b.toInt)) ∧
        evalFlag .of (.imul23 w a b) = some (overflows w (a.toInt * b.toInt))) ∧
      (evalFlag .sf (.value w r) = some (r.getLsbD (w.bits - 1)) ∧
        evalFlag .zf (.value w r) = some (decide (r.toNat = 0)) ∧
        evalFlag .pf (.value w r) =
          some (decide ((((List.range 8).map fun i => (r.getLsbD i).toNat).sum) % 2 = 0)))

/-- O20. FLAGS32 bit by bit, and the introspection snapshot, which changes no resolved flag. 10_state R130, R150. -/
def Obligations.FlagsImage : Prop :=
  ∀ s : State,
    (s.flags32.getLsbD 0 = s.flag .cf ∧ s.flags32.getLsbD 1 = true ∧ s.flags32.getLsbD 2 = s.flag .pf ∧
        s.flags32.getLsbD 3 = false ∧ s.flags32.getLsbD 4 = s.flag .af ∧ s.flags32.getLsbD 5 = false ∧
        s.flags32.getLsbD 6 = s.flag .zf ∧ s.flags32.getLsbD 7 = s.flag .sf ∧ s.flags32.getLsbD 11 = s.flag .of ∧
        ∀ i, (8 ≤ i ∧ i ≤ 10) ∨ (12 ≤ i ∧ i ≤ 31) → s.flags32.getLsbD i = s.flagsOther.getLsbD i) ∧
      (s.snapshot.1.gpr = s.gpr ∧ s.snapshot.1.eip = s.eip ∧ s.snapshot.1.flags32 = s.flags32) ∧
      (∀ f, s.snapshot.2.flag f = s.flag f) ∧ s.snapshot.2 = s.setFlags s.snapshot.2.flags

/-- O21. At a boundary with the run going on, a step fetches the bytes the decode read and runs the instruction. 70_reset_and_hazards R1204, with what this model puts around exec: the record of the fetches (log 13, 14) and the offer taken (log 16). -/
def Obligations.StepRunsDecoded : Prop :=
  ∀ s : State, s.status = .running → s.eip ≠ s.params.stopIP → s.offered = none →
    let d := decode s.params.mode s.window
    let s' := s.takeOffer.afterFetch d.len
    (∀ i, d.outcome = .instr i → step s = exec i s') ∧
      (∀ r, d.outcome = .refuse r → step s = .next (s'.refuse r)) ∧
      s' = { s with pending := s.pending.tail, draws := s'.draws, busLog := s'.busLog }

/-- O22. An ended run takes no step; stopIP finishes the run; else an offered interrupt is delivered. 70_reset_and_hazards R1204-R1206; 60_exceptions R1130; that pending is a list of the offers to come is the model's choice (log 16). -/
def Obligations.BoundaryEvents : Prop :=
  ∀ s : State,
    (s.status ≠ .running → step s = .fault .runOver) ∧
      (s.status = .running → s.eip = s.params.stopIP → step s = .next { s with status := .finished }) ∧
      (s.status = .running → s.eip ≠ s.params.stopIP → ∀ v rest, s.pending = some v :: rest →
        step s = .next (State.deliver (.external v) { s with pending := rest }))

/-- O23. The fetches of n instruction bytes are n byte reads at EIP, EIP+1, ... in that order. 30_encoding R302; 10_state R120. -/
def Obligations.FetchOrder : Prop :=
  ∀ (s : State) (n : Nat), ∃ v : Nat → Dword,
    (s.afterFetch n).busLog =
        ((List.range n).map fun k =>
          BusCall.memRead ((s.segBase .cs + s.ipwrap (s.eip + BitVec.ofNat 32 k)) &&& s.params.linearMask) .byte
            (v k)).reverse ++ s.busLog ∧
      s.afterFetch n = { s with draws := (s.afterFetch n).draws, busLog := (s.afterFetch n).busLog }

/-- O24. The state at reset: running, overrides full, tags empty, cache empty, evalCount 0, and the invariants. 70_reset_and_hazards R1200, R1201; the launch values are the model's choice (log 1-8, 15, 16), those of 95_test_vectors. -/
def Obligations.ResetState : Prop :=
  State.reset.status = .running ∧ (∀ f, State.reset.flags.ovr f = some false) ∧
    (∀ g, State.reset.flags.tag g = none) ∧ State.reset.accessorCache = [] ∧ State.reset.flags.evalCount = 0 ∧
    State.reset.eip = 0x100#32 ∧ State.reset.params.codeSize = .b16 ∧ State.reset.params.deliver = .stop ∧
    (∀ r, State.reset.gpr.get r = 0#32) ∧ (∀ x, State.reset.segBase x = 0#32) ∧ State.reset.pending = [] ∧
    State.reset.flags.valid = true ∧ State.reset.mem.wf = true ∧ State.reset.eipInRange

/-- O25. Every step keeps the flag engine's invariant: a flag with an empty override has a tag that defines it. 40_flag_engine R422, over every instruction. -/
def Obligations.EngineInvariantKept : Prop :=
  State.reset.flags.valid = true ∧
    ∀ s t : State, s.flags.valid = true → step s = .next t → t.flags.valid = true

/-- O26. Every step keeps memory in its canonical form. The canonical form of memory (log 8), so that equal memories are equal data. -/
def Obligations.MemoryCanonicalKept : Prop :=
  ∀ s t : State, s.mem.wf = true → step s = .next t → t.mem.wf = true

/-- O27. EIP stays within the code offset range. 10_state R120, R121: EIP is always reduced by ipwrap. -/
def Obligations.EipRangeKept : Prop :=
  ∀ s t : State, s.eipInRange → step s = .next t → t.eipInRange

/-- O28. No step changes a launch parameter; a segment register or flagsOther changes only as deliver says. 10_state R110, R111, R125, R133; 70_reset_and_hazards R1200, R1207. That a step keeps the offers after the one it takes is the model's choice (log 16), and no rule's; what is taken over of a new state is log 15. -/
def Obligations.LaunchConstantsKept : Prop :=
  ∀ s t : State, step s = .next t →
    t.params = s.params ∧ t.pending = (if s.eip = s.params.stopIP then s.pending else s.pending.tail) ∧
      ((t.seg = s.seg ∧ t.flagsOther = s.flagsOther) ∨
        ∃ (u : State) (e : Event) (x : Resumption), s.params.deliver = .host ∧ Config.hostDeliver u e = some x ∧
          t = u.resume x ∧ u.seg = s.seg ∧ u.flagsOther = s.flagsOther)

/-- O29. A step that ends in a fault, a refusal or a decode fault changes no register, flag, memory byte, nor EIP. 60_exceptions R1105, over every instruction, where deliver answers Stop (R1120, log 15). The offer taken is log 16. -/
def Obligations.FaultsLeaveTheState : Prop :=
  ∀ s t : State, step s = .next t → t.status.leavesState = true →
    Untouched s.takeOffer t ∧
      ∃ calls : List BusCall, t.busLog = calls ++ s.busLog ∧ ∀ c ∈ calls, c.isMemRead = true

/-- O30. The accessor cache only grows and holds no shape twice. 30_encoding R336: it starts empty and only grows. -/
def Obligations.AccessorCacheGrows : Prop :=
  ∀ s t : State, step s = .next t →
    s.accessorCache <+: t.accessorCache ∧ (s.accessorCache.Nodup → t.accessorCache.Nodup)

/-- O31. ADD completes: the sum is stored, the flags pend on it, nothing else changes. 41_alu_binary R510, every row of ADD. -/
def Obligations.AddResult : Prop :=
  ∀ (f : BinaryForm) (s : State),
    let a := f.left s
    let b := f.right s
    let r := a + b
    ∃ t, exec (f.instr .add) s = .next t ∧ f.Stores r s t ∧
      Wrote
        { cf := .lazy (.add f.width a b), af := .lazy (.add f.width a b), of := .lazy (.add f.width a b),
          sf := .lazy (.value f.width r), zf := .lazy (.value f.width r), pf := .lazy (.value f.width r) } s t ∧
      ResultFlags f.width r t ∧
      CarryFlags (decide (2 ^ f.width.bits ≤ a.toNat + b.toNat)) (carryAt4 f.width a b r)
        (overflows f.width (a.toInt + b.toInt)) t

/-- O32. ADC completes: the sum with the carry is stored, the flags pend on it, nothing else changes. 41_alu_binary R512, every row of ADC. -/
def Obligations.AdcResult : Prop :=
  ∀ (f : BinaryForm) (s : State),
    let a := f.left s
    let b := f.right s
    let c := s.flag .cf
    let r := a + b + BitVec.ofNat f.width.bits c.toNat
    ∃ t, exec (f.instr .adc) s = .next t ∧ f.Stores r s t ∧
      Wrote
        { cf := .lazy (.adc f.width a b c), af := .lazy (.adc f.width a b c), of := .lazy (.adc f.width a b c),
          sf := .lazy (.value f.width r), zf := .lazy (.value f.width r), pf := .lazy (.value f.width r) } s t ∧
      ResultFlags f.width r t ∧
      CarryFlags (decide (2 ^ f.width.bits ≤ a.toNat + b.toNat + c.toNat)) (carryAt4 f.width a b r)
        (overflows f.width (a.toInt + b.toInt + c.toNat)) t

/-- O33. SUB completes: destination minus source is stored, the flags pend on it, nothing else changes. 41_alu_binary R515, every row of SUB. -/
def Obligations.SubResult : Prop :=
  ∀ (f : BinaryForm) (s : State),
    let a := f.left s
    let b := f.right s
    let r := a - b
    ∃ t, exec (f.instr .sub) s = .next t ∧ f.Stores r s t ∧
      Wrote
        { cf := .lazy (.sub f.width a b), af := .lazy (.sub f.width a b), of := .lazy (.sub f.width a b),
          sf := .lazy (.value f.width r), zf := .lazy (.value f.width r), pf := .lazy (.value f.width r) } s t ∧
      ResultFlags f.width r t ∧
      CarryFlags (decide (a.toNat < b.toNat)) (carryAt4 f.width a b r)
        (overflows f.width (a.toInt - b.toInt)) t

/-- O34. SBB completes: destination minus source minus borrow is stored, the flags pend on it. 41_alu_binary R513, every row of SBB. -/
def Obligations.SbbResult : Prop :=
  ∀ (f : BinaryForm) (s : State),
    let a := f.left s
    let b := f.right s
    let c := s.flag .cf
    let r := a - b - BitVec.ofNat f.width.bits c.toNat
    ∃ t, exec (f.instr .sbb) s = .next t ∧ f.Stores r s t ∧
      Wrote
        { cf := .lazy (.sbb f.width a b c), af := .lazy (.sbb f.width a b c), of := .lazy (.sbb f.width a b c),
          sf := .lazy (.value f.width r), zf := .lazy (.value f.width r), pf := .lazy (.value f.width r) } s t ∧
      ResultFlags f.width r t ∧
      CarryFlags (decide (a.toNat < b.toNat + c.toNat)) (carryAt4 f.width a b r)
        (overflows f.width (a.toInt - b.toInt - c.toNat)) t

/-- O35. CMP completes: nothing is stored, the flags are those of the subtraction. 41_alu_binary R517, every row of CMP. -/
def Obligations.CmpResult : Prop :=
  ∀ (f : BinaryForm) (s : State),
    let a := f.left s
    let b := f.right s
    let r := a - b
    ∃ t, exec (f.instr .cmp) s = .next t ∧ f.Compares s t ∧
      Wrote
        { cf := .lazy (.sub f.width a b), af := .lazy (.sub f.width a b), of := .lazy (.sub f.width a b),
          sf := .lazy (.value f.width r), zf := .lazy (.value f.width r), pf := .lazy (.value f.width r) } s t ∧
      ResultFlags f.width r t ∧
      CarryFlags (decide (a.toNat < b.toNat)) (carryAt4 f.width a b r)
        (overflows f.width (a.toInt - b.toInt)) t

/-- O36. OR, AND and XOR complete: the result is stored, CF and OF are false, AF undefined. 41_alu_binary R511, R514, R516. -/
def Obligations.LogicResult : Prop :=
  ∀ (f : BinaryForm) (s : State),
    let a := f.left s
    let b := f.right s
    (∃ t, exec (f.instr .or) s = .next t ∧ f.Stores (a ||| b) s t ∧
        Wrote
          { cf := .explicit false, of := .explicit false, af := .undef, sf := .lazy (.value f.width (a ||| b)),
            zf := .lazy (.value f.width (a ||| b)), pf := .lazy (.value f.width (a ||| b)) } s t ∧
        t.flag .cf = false ∧ t.flag .of = false ∧ ResultFlags f.width (a ||| b) t) ∧
      (∃ t, exec (f.instr .and) s = .next t ∧ f.Stores (a &&& b) s t ∧
        Wrote
          { cf := .explicit false, of := .explicit false, af := .undef, sf := .lazy (.value f.width (a &&& b)),
            zf := .lazy (.value f.width (a &&& b)), pf := .lazy (.value f.width (a &&& b)) } s t ∧
        t.flag .cf = false ∧ t.flag .of = false ∧ ResultFlags f.width (a &&& b) t) ∧
      (∃ t, exec (f.instr .xor) s = .next t ∧ f.Stores (a ^^^ b) s t ∧
        Wrote
          { cf := .explicit false, of := .explicit false, af := .undef, sf := .lazy (.value f.width (a ^^^ b)),
            zf := .lazy (.value f.width (a ^^^ b)), pf := .lazy (.value f.width (a ^^^ b)) } s t ∧
        t.flag .cf = false ∧ t.flag .of = false ∧ ResultFlags f.width (a ^^^ b) t)

/-- O37. TEST completes: nothing is stored, the flags are those of the bitwise AND. 41_alu_binary R518. -/
def Obligations.TestResult : Prop :=
  ∀ (f : TestForm) (s : State),
    let r := f.result s
    ∃ t, exec f.instr s = .next t ∧ Completes f.head s t ∧ NothingStored s t ∧
      t.busLog = s.sourceCalls f.width f.head f.first ++ s.busLog ∧
      Wrote
        { cf := .explicit false, of := .explicit false, af := .undef, sf := .lazy (.value f.width r),
          zf := .lazy (.value f.width r), pf := .lazy (.value f.width r) } s t ∧
      t.flag .cf = false ∧ t.flag .of = false ∧ ResultFlags f.width r t

/-- O38. INC and DEC complete: the operand plus or minus one is stored, CF is kept. 42_alu_unary R610, R611. -/
def Obligations.IncDecResult : Prop :=
  ∀ (f : CountForm) (s : State),
    let a := f.value s
    (∃ t, exec f.incRow s = .next t ∧ ReadModifyWrite f.head f.width (f.loc s) (a + 1#f.width.bits) s t ∧
        Wrote
          { af := .lazy (.add f.width a 1#f.width.bits), of := .lazy (.add f.width a 1#f.width.bits),
            sf := .lazy (.value f.width (a + 1#f.width.bits)), zf := .lazy (.value f.width (a + 1#f.width.bits)),
            pf := .lazy (.value f.width (a + 1#f.width.bits)) } s t ∧
        ResultFlags f.width (a + 1#f.width.bits) t ∧
        CarryFlags (s.flag .cf) (carryAt4 f.width a 1#f.width.bits (a + 1#f.width.bits))
          (decide (a.toNat = 2 ^ (f.width.bits - 1) - 1)) t) ∧
      (∃ t, exec f.decRow s = .next t ∧ ReadModifyWrite f.head f.width (f.loc s) (a - 1#f.width.bits) s t ∧
        Wrote
          { af := .lazy (.sub f.width a 1#f.width.bits), of := .lazy (.sub f.width a 1#f.width.bits),
            sf := .lazy (.value f.width (a - 1#f.width.bits)), zf := .lazy (.value f.width (a - 1#f.width.bits)),
            pf := .lazy (.value f.width (a - 1#f.width.bits)) } s t ∧
        ResultFlags f.width (a - 1#f.width.bits) t ∧
        CarryFlags (s.flag .cf) (carryAt4 f.width a 1#f.width.bits (a - 1#f.width.bits))
          (decide (a.toNat = 2 ^ (f.width.bits - 1))) t)

/-- O39. NEG completes: 0 minus the operand is stored; CF, OF and AF by the operand. 42_alu_unary R612. -/
def Obligations.NegResult : Prop :=
  ∀ (f : GroupForm) (s : State),
    let a := f.value s
    let r := 0#f.width.bits - a
    ∃ t, exec f.negRow s = .next t ∧ ReadModifyWrite f.head f.width (f.loc s) r s t ∧
      Wrote
        { cf := .lazy (.sub f.width 0#f.width.bits a), af := .lazy (.sub f.width 0#f.width.bits a),
          of := .lazy (.sub f.width 0#f.width.bits a), sf := .lazy (.value f.width r),
          zf := .lazy (.value f.width r), pf := .lazy (.value f.width r) } s t ∧
      ResultFlags f.width r t ∧
      CarryFlags (decide (a.toNat ≠ 0)) (decide (a.toNat % 16 ≠ 0)) (decide (a.toNat = 2 ^ (f.width.bits - 1))) t

/-- O40. NOT completes: the inverted operand is stored and the flag engine is not touched. 42_alu_unary R613. -/
def Obligations.NotResult : Prop :=
  ∀ (f : GroupForm) (s : State),
    ∃ t, exec f.notRow s = .next t ∧ ReadModifyWrite f.head f.width (f.loc s) (~~~(f.value s)) s t ∧
      t.flags = s.flags

/-- O41. MUL completes: the unsigned product in AX, DX:AX or EDX:EAX, CF = OF = high half not zero. 43_muldiv R710. -/
def Obligations.MulResult : Prop :=
  ∀ (f : GroupForm) (s : State),
    let a := s.readReg f.width .ax
    let b := f.value s
    ∃ t, exec f.mulRow s = .next t ∧ Completes f.head s t ∧
      t.gpr = storeProduct f.width (a.toNat * b.toNat) s.gpr ∧ MemoryKept s t ∧
      t.busLog = s.readCalls f.width (f.loc s) ++ s.busLog ∧
      Wrote
        { cf := .lazy (.mul f.width a b), of := .lazy (.mul f.width a b), af := .undef, sf := .undef, zf := .undef,
          pf := .undef } s t ∧
      t.flag .cf = decide (2 ^ f.width.bits ≤ a.toNat * b.toNat) ∧
      t.flag .of = decide (2 ^ f.width.bits ≤ a.toNat * b.toNat)

/-- O42. IMUL with one operand completes: the signed double-width product, CF = OF = it does not fit. 43_muldiv R711. -/
def Obligations.ImulResult : Prop :=
  ∀ (f : GroupForm) (s : State),
    let a := s.readReg f.width .ax
    let b := f.value s
    ∃ t, exec f.imulRow s = .next t ∧ Completes f.head s t ∧
      t.gpr = storeProduct f.width (a.toInt * b.toInt % 2 ^ (2 * f.width.bits)).toNat s.gpr ∧ MemoryKept s t ∧
      t.busLog = s.readCalls f.width (f.loc s) ++ s.busLog ∧
      Wrote
        { cf := .lazy (.imul f.width a b), of := .lazy (.imul f.width a b), af := .undef, sf := .undef, zf := .undef,
          pf := .undef } s t ∧
      t.flag .cf = overflows f.width (a.toInt * b.toInt) ∧
      t.flag .of = overflows f.width (a.toInt * b.toInt)

/-- O43. IMUL with two and three operands completes: the truncated signed product in the G register. 43_muldiv R712, R713. -/
def Obligations.ImulTruncatedResult : Prop :=
  ∀ (h : Head) (r : Reg) (e : EOperand) (iz : BitVec 32) (ib : BitVec 8) (s : State),
    let w := h.opSize.width
    let b := s.locValue w (s.eLoc h e)
    let product (x y : BitVec w.bits) (t : State) : Prop :=
      Completes h s t ∧ Stored w (.reg r) (BitVec.ofInt w.bits (x.toInt * y.toInt)) s t ∧
        t.busLog = s.readCalls w (s.eLoc h e) ++ s.busLog ∧
        Wrote
          { cf := .lazy (.imul23 w x y), of := .lazy (.imul23 w x y), af := .undef, sf := .undef, zf := .undef,
            pf := .undef } s t ∧
        t.flag .cf = overflows w (x.toInt * y.toInt) ∧ t.flag .of = overflows w (x.toInt * y.toInt)
    (∃ t, exec (.imulGvEv h r e) s = .next t ∧ product (s.readReg w r) b t) ∧
      (∃ t, exec (.imulGvEvIz h r e iz) s = .next t ∧ product b (iz.setWidth w.bits) t) ∧
      ∃ t, exec (.imulGvEvIb h r e ib) s = .next t ∧ product b (ib.signExtend w.bits) t

/-- O44. DIV with a quotient that fits completes: quotient and remainder placed, every flag undefined. 43_muldiv R720, the completing case. -/
def Obligations.DivCompletes : Prop :=
  ∀ (f : GroupForm) (s : State),
    let b := (f.value s).toNat
    let d := dividendOf f.width s.gpr
    b ≠ 0 → d / b < 2 ^ f.width.bits →
      ∃ t, exec f.divRow s = .next t ∧ Completes f.head s t ∧
        t.gpr = storeQuotient f.width (d / b : Nat) (d % b : Nat) s.gpr ∧ MemoryKept s t ∧
        t.busLog = s.readCalls f.width (f.loc s) ++ s.busLog ∧
        Wrote { cf := .undef, pf := .undef, af := .undef, zf := .undef, sf := .undef, of := .undef } s t

/-- O45. IDIV with a quotient that fits completes: quotient toward zero, remainder with the dividend's sign. 43_muldiv R721, the completing case. -/
def Obligations.IdivCompletes : Prop :=
  ∀ (f : GroupForm) (s : State),
    let y := (f.value s).toInt
    let x := signedDividendOf f.width s.gpr
    y ≠ 0 → -(2 ^ (f.width.bits - 1)) ≤ x.tdiv y → x.tdiv y ≤ 2 ^ (f.width.bits - 1) - 1 →
      ∃ t, exec f.idivRow s = .next t ∧ Completes f.head s t ∧
        t.gpr = storeQuotient f.width (x.tdiv y) (x.tmod y) s.gpr ∧ MemoryKept s t ∧
        t.busLog = s.readCalls f.width (f.loc s) ++ s.busLog ∧
        Wrote { cf := .undef, pf := .undef, af := .undef, zf := .undef, sf := .undef, of := .undef } s t

/-- O46. DIV and IDIV raise #DE on a zero divisor or a quotient that does not fit, and change nothing. 43_muldiv R722; 60_exceptions R1101, R1105, R1120. What deliver does is EventDelivery (log 15). -/
def Obligations.DivideFaults : Prop :=
  ∀ (f : GroupForm) (s : State),
    let b := (f.value s).toNat
    let d := dividendOf f.width s.gpr
    let y := (f.value s).toInt
    let x := signedDividendOf f.width s.gpr
    let faults (i : Instr) : Prop :=
      ∃ u, exec i s = .next (State.deliver (.fault 0#8) u) ∧ Untouched s u ∧ u.status = s.status ∧
        u.busLog = s.readCalls f.width (f.loc s) ++ s.busLog
    (b = 0 ∨ 2 ^ f.width.bits ≤ d / b → faults f.divRow) ∧
      (y = 0 ∨ x.tdiv y < -(2 ^ (f.width.bits - 1)) ∨ 2 ^ (f.width.bits - 1) - 1 < x.tdiv y → faults f.idivRow)

/-- O47. A shift or rotate by a masked count of 0 changes nothing but EIP. 44_shift_rotate R801. -/
def Obligations.ShiftByZero : Prop :=
  ∀ (f : ShiftForm) (s : State), f.count s = 0 →
    let still (i : Instr) : Prop :=
      ∃ t, exec i s = .next t ∧ Completes f.head s t ∧ t.gpr = s.gpr ∧ t.mem = s.mem ∧ t.flags = s.flags ∧
        t.busLog = s.readCalls f.width (f.loc s) ++ s.busLog
    (∀ op, still (f.instr op)) ∧ still f.shlRow6

/-- O48. SHL completes: the operand times 2^c, CF the last bit shifted out, OF for a count of 1. 44_shift_rotate R810. -/
def Obligations.ShlResult : Prop :=
  ∀ (f : ShiftForm) (s : State) (i : Instr), i = f.instr .shl ∨ i = f.shlRow6 → f.count s ≠ 0 →
    let c := f.count s
    let a := f.value s
    let n := f.width.bits
    let r : BitVec f.width.bits := BitVec.ofNat n (a.toNat * 2 ^ c)
    ∃ t, exec i s = .next t ∧ ReadModifyWrite f.head f.width (f.loc s) r s t ∧ ResultFlags f.width r t ∧
      (c = 1 → Wrote
        { cf := .lazy (.shl1 f.width a), of := .lazy (.shl1 f.width a), af := .undef, sf := .lazy (.value f.width r),
          zf := .lazy (.value f.width r), pf := .lazy (.value f.width r) } s t ∧
        t.flag .cf = a.getLsbD (n - 1) ∧ t.flag .of = (a.getLsbD (n - 1) ^^ a.getLsbD (n - 2))) ∧
      (2 ≤ c → c ≤ n - 1 → Wrote
        { cf := .lazy (.shl f.width a (BitVec.ofNat 5 c)), of := .undef, af := .undef, sf := .lazy (.value f.width r),
          zf := .lazy (.value f.width r), pf := .lazy (.value f.width r) } s t ∧
        t.flag .cf = a.getLsbD (n - c)) ∧
      (n ≤ c → Wrote
        { cf := .undef, of := .undef, af := .undef, sf := .lazy (.value f.width r), zf := .lazy (.value f.width r),
          pf := .lazy (.value f.width r) } s t ∧ r = 0#f.width.bits)

/-- O49. SHR completes: the operand divided by 2^c, CF the last bit shifted out, OF for a count of 1. 44_shift_rotate R811. -/
def Obligations.ShrResult : Prop :=
  ∀ (f : ShiftForm) (s : State) (i : Instr), i = f.instr .shr → f.count s ≠ 0 →
    let c := f.count s
    let a := f.value s
    let n := f.width.bits
    let r : BitVec f.width.bits := BitVec.ofNat n (a.toNat / 2 ^ c)
    ∃ t, exec i s = .next t ∧ ReadModifyWrite f.head f.width (f.loc s) r s t ∧ ResultFlags f.width r t ∧
      (c = 1 → Wrote
        { cf := .lazy (.shr1 f.width a), of := .lazy (.shr1 f.width a), af := .undef, sf := .lazy (.value f.width r),
          zf := .lazy (.value f.width r), pf := .lazy (.value f.width r) } s t ∧
        t.flag .cf = a.getLsbD 0 ∧ t.flag .of = a.getLsbD (n - 1)) ∧
      (2 ≤ c → c ≤ n - 1 → Wrote
        { cf := .lazy (.shr f.width a (BitVec.ofNat 5 c)), of := .undef, af := .undef, sf := .lazy (.value f.width r),
          zf := .lazy (.value f.width r), pf := .lazy (.value f.width r) } s t ∧
        t.flag .cf = a.getLsbD (c - 1)) ∧
      (n ≤ c → Wrote
        { cf := .undef, of := .undef, af := .undef, sf := .lazy (.value f.width r), zf := .lazy (.value f.width r),
          pf := .lazy (.value f.width r) } s t ∧ r = 0#f.width.bits)

/-- O50. SAR completes: the signed operand divided by 2^c, rounded down, CF the last bit shifted out. 44_shift_rotate R812. -/
def Obligations.SarResult : Prop :=
  ∀ (f : ShiftForm) (s : State) (i : Instr), i = f.instr .sar → f.count s ≠ 0 →
    let c := f.count s
    let a := f.value s
    let n := f.width.bits
    let r : BitVec f.width.bits := BitVec.ofInt n (a.toInt / 2 ^ c)
    ∃ t, exec i s = .next t ∧ ReadModifyWrite f.head f.width (f.loc s) r s t ∧ ResultFlags f.width r t ∧
      (c = 1 → Wrote
        { cf := .lazy (.sar1 f.width a), of := .lazy (.sar1 f.width a), af := .undef, sf := .lazy (.value f.width r),
          zf := .lazy (.value f.width r), pf := .lazy (.value f.width r) } s t ∧
        t.flag .cf = a.getLsbD 0 ∧ t.flag .of = false) ∧
      (2 ≤ c → Wrote
        { cf := .lazy (.sar f.width a (BitVec.ofNat 5 c)), of := .undef, af := .undef, sf := .lazy (.value f.width r),
          zf := .lazy (.value f.width r), pf := .lazy (.value f.width r) } s t ∧
        t.flag .cf = a.getLsbD (min c n - 1))

/-- O51. ROL and ROR complete: the operand rotated by c, CF the bit rotated last, other flags kept. 44_shift_rotate R813, R814. -/
def Obligations.RotateResult : Prop :=
  ∀ (f : ShiftForm) (s : State), f.count s ≠ 0 →
    let c := f.count s
    let a := f.value s
    let n := f.width.bits
    (∃ t r, exec (f.instr .rol) s = .next t ∧ RotatedLeft a c r ∧ ReadModifyWrite f.head f.width (f.loc s) r s t ∧
        Wrote
          { cf := .lazy (.rol f.width a (BitVec.ofNat 5 c)),
            of := if c = 1 then .lazy (.rol f.width a (BitVec.ofNat 5 c)) else .undef } s t ∧
        t.flag .cf = r.getLsbD 0 ∧ (c = 1 → t.flag .of = (r.getLsbD (n - 1) ^^ r.getLsbD 0))) ∧
      (∃ t r, exec (f.instr .ror) s = .next t ∧ RotatedLeft r c a ∧ ReadModifyWrite f.head f.width (f.loc s) r s t ∧
        Wrote
          { cf := .lazy (.ror f.width a (BitVec.ofNat 5 c)),
            of := if c = 1 then .lazy (.ror f.width a (BitVec.ofNat 5 c)) else .undef } s t ∧
        t.flag .cf = r.getLsbD (n - 1) ∧ (c = 1 → t.flag .of = (r.getLsbD (n - 1) ^^ r.getLsbD (n - 2))))

/-- O52. RCL and RCR complete: the ring of carry and operand rotated by c, other flags kept. 44_shift_rotate R815, R816. -/
def Obligations.RotateCarryResult : Prop :=
  ∀ (f : ShiftForm) (s : State), f.count s ≠ 0 →
    let c := f.count s
    let a := f.value s
    let b := s.flag .cf
    let n := f.width.bits
    (∃ t y, exec (f.instr .rcl) s = .next t ∧ RotatedLeft (carryRing f.width b a) c y ∧
        ReadModifyWrite f.head f.width (f.loc s) (y.setWidth f.width.bits) s t ∧
        Wrote
          { cf := .lazy (.rcl f.width a (BitVec.ofNat 5 c) b),
            of := if c = 1 then .lazy (.rcl f.width a (BitVec.ofNat 5 c) b) else .undef } s t ∧
        t.flag .cf = y.getLsbD n ∧ (c = 1 → t.flag .of = (y.getLsbD (n - 1) ^^ y.getLsbD n))) ∧
      (∃ t y, exec (f.instr .rcr) s = .next t ∧ RotatedLeft y c (carryRing f.width b a) ∧
        ReadModifyWrite f.head f.width (f.loc s) (y.setWidth f.width.bits) s t ∧
        Wrote
          { cf := .lazy (.rcr f.width a (BitVec.ofNat 5 c) b),
            of := if c = 1 then .lazy (.rcr f.width a (BitVec.ofNat 5 c) b) else .undef } s t ∧
        t.flag .cf = y.getLsbD n ∧ (c = 1 → t.flag .of = (y.getLsbD (n - 1) ^^ y.getLsbD (n - 2))))

/-- O53. CLC, STC and CMC complete: CF is 0, 1 or inverted, and nothing else changes. 45_flag_consumers R901-R903. -/
def Obligations.CarryInstructions : Prop :=
  ∀ (h : Head) (s : State),
    let carry (i : Instr) (b : Bool) : Prop :=
      ∃ t, exec i s = .next t ∧ Completes h s t ∧ NothingStored s t ∧ t.busLog = s.busLog ∧
        t.accessorCache = s.accessorCache ∧ Wrote { cf := .explicit b } s t ∧ t.flag .cf = b ∧
        (∀ f, f ≠ .cf → t.flag f = s.flag f)
    let evaluates (i : Instr) : Prop :=
      ∀ t, exec i s = .next t →
        t.flags.evalCount = s.flags.evalCount + if (s.flags.ovr .af).isSome then 0 else 1
    carry (.clc h) false ∧ carry (.stc h) true ∧ carry (.cmc h) (!s.flag .cf) ∧ evaluates (.clc h) ∧
      evaluates (.stc h)

/-- O54. LAHF loads AH from the flags; SAHF stores AH into all flags but OF. 45_flag_consumers R904, R905. -/
def Obligations.FlagsToAndFromAh : Prop :=
  ∀ (h : Head) (s : State),
    (∃ t, exec (.lahf h) s = .next t ∧ Completes h s t ∧ MemoryKept s t ∧ t.busLog = s.busLog ∧ FlagsKept s t ∧
      t.gpr = s.gpr.write .byte .sp
        (BitVec.ofNat 8 ((s.flag .sf).toNat * 128 + (s.flag .zf).toNat * 64 + (s.flag .af).toNat * 16
          + (s.flag .pf).toNat * 4 + 2 + (s.flag .cf).toNat))) ∧
      ∃ t, exec (.sahf h) s = .next t ∧ Completes h s t ∧ NothingStored s t ∧ t.busLog = s.busLog ∧
        t.flags.ovr .sf = some ((s.readReg .byte .sp).getLsbD 7) ∧
        t.flags.ovr .zf = some ((s.readReg .byte .sp).getLsbD 6) ∧
        t.flags.ovr .af = some ((s.readReg .byte .sp).getLsbD 4) ∧
        t.flags.ovr .pf = some ((s.readReg .byte .sp).getLsbD 2) ∧
        t.flags.ovr .cf = some ((s.readReg .byte .sp).getLsbD 0) ∧
        t.flags.ovr .of = s.flags.ovr .of ∧ t.flags.tag .o = s.flags.tag .o ∧ t.flag .of = s.flag .of

/-- O55. Every Jcc completes: to the target when its condition holds, else to the next instruction. 45_flag_consumers R920, R921, R910. -/
def Obligations.ConditionalJumps : Prop :=
  ∀ (f : JumpForm) (c : Cond) (s : State),
    ∃ t, exec (f.instr c) s = .next t ∧
      t.eip =
        (if s.condition c then f.target s
         else truncInt s.params.codeSize (s.eip.toNat + f.head.len)) ∧
      t.gpr = s.gpr ∧ MemoryKept s t ∧ FlagsKept s t ∧ t.status = s.status ∧ LaunchKept s t ∧
      t.busLog = s.busLog ∧ s.accessorCache <+: t.accessorCache

/-- O56. Every SETcc completes: 1 or 0 stored in the byte operand, which is not read. 45_flag_consumers R922, R910. -/
def Obligations.SetByteOnCondition : Prop :=
  ∀ (c : Cond) (h : Head) (r : Reg) (e : EOperand) (s : State),
    let v : BitVec 8 := if s.condition c then 1#8 else 0#8
    ∃ t, exec (setccRow c h r e) s = .next t ∧ Completes h s t ∧ Stored .byte (s.eLoc h e) v s t ∧
      FlagsKept s t ∧ t.busLog = writeCalls .byte (s.eLoc h e) v ++ s.busLog

/-- O57. IN and OUT of 8 or 16 bits complete with one port access; of 32 bits they are refused with none. 46_io_interrupt R1000-R1003. -/
def Obligations.PortTransfers : Prop :=
  ∀ (f : PortForm) (s : State),
    (f.width ≠ .dword →
      (∃ t v, exec f.inRow s = .next t ∧ Completes f.head s t ∧ t.gpr = s.gpr.write f.width .ax v ∧
          MemoryKept s t ∧ t.flags = s.flags ∧
          t.busLog = .portRead (f.port s) f.width (v.setWidth 32) :: s.busLog) ∧
        ∃ t, exec f.outRow s = .next t ∧ Completes f.head s t ∧ NothingStored s t ∧ t.flags = s.flags ∧
          t.busLog = .portWrite (f.port s) f.width ((s.readReg f.width .ax).setWidth 32) :: s.busLog) ∧
      (f.width = .dword →
        exec f.inRow s = .next { s with status := .refused .port32 } ∧
          exec f.outRow s = .next { s with status := .refused .port32 })

/-- O58. deliver answers Stop, which ends the run with the event, or a new state, with which the run goes on. 60_exceptions R1120; 70_reset_and_hazards R1204, R1207. The form of the new state is the model's choice (log 15). -/
def Obligations.EventDelivery : Prop :=
  ∀ (e : Event) (s : State),
    s.deliver e =
        (match s.params.deliver, Config.hostDeliver s e with
        | .host, some x => s.resume x
        | _, _ =>
          { s with
            status :=
              match e with
              | .fault v => .faulted (.fault v)
              | .softInt v => .trapped (.softInt v)
              | .external v => .trapped (.external v) }) ∧
      ∀ x : Resumption,
        (s.resume x).gpr = x.gpr ∧ (s.resume x).seg = x.seg ∧ (s.resume x).flagsOther = x.flagsOther ∧
          (s.resume x).eip = s.ipwrap x.eip ∧ (x.mem.wf = true → (s.resume x).mem = x.mem) ∧
          (x.flags.valid = true → (s.resume x).flags = x.flags) ∧
          (x.mem.wf = false → (s.resume x).mem = s.mem) ∧
          (x.flags.valid = false → (s.resume x).flags = s.flags) ∧
          s.accessorCache <+: (s.resume x).accessorCache ∧ (∀ y ∈ x.shapes, y ∈ (s.resume x).accessorCache) ∧
          (s.resume x).status = s.status ∧ (s.resume x).params = s.params ∧ (s.resume x).pending = s.pending ∧
          (s.resume x).busLog = s.busLog

/-- O59. INT3, INT n and INTO with OF = 1 hand their vector over with EIP at the next instruction; INTO else completes. 46_io_interrupt R1010-R1013; 60_exceptions R1120. What deliver does is EventDelivery (log 15). -/
def Obligations.SoftwareInterrupts : Prop :=
  ∀ (h : Head) (n : BitVec 8) (s : State),
    let quiet (u : State) : Prop := Completes h s u ∧ NothingStored s u ∧ FlagsKept s u ∧ u.busLog = s.busLog
    (∃ u, exec (.int3 h) s = .next (State.deliver (.softInt 3#8) u) ∧ quiet u) ∧
      (∃ u, exec (.intIb h n) s = .next (State.deliver (.softInt n) u) ∧ quiet u) ∧
      ∃ u, exec (.into h) s = .next (if s.flag .of then State.deliver (.softInt 4#8) u else u) ∧ quiet u

/-- O60. Every undefined row raises #UD and changes nothing; every alias row runs as its twin in its twin form. 60_exceptions R1102, R1105, R1120; 30_encoding R371, R372. What deliver does is EventDelivery (log 15). -/
def Obligations.UndefinedOpcodeRows : Prop :=
  (∀ (u : UndefinedRow) (h : Head) (x : ModRmBits) (s : State),
    exec (u.instr h x) s = .next (State.deliver (.fault 6#8) s)) ∧
    ∀ (h : Head) (e : EOperand) (v : BitVec 8) (z : BitVec 32) (s : State),
      (∀ op, exec ((BinaryForm.ebIb82 h e v).instr op) s = exec ((BinaryForm.ebIb h e v).instr op) s) ∧
        exec (.testEbIbSlash1 h (.twin (e, v))) s = exec (.testEbIb h e v) s ∧
        exec (.testEvIzSlash1 h (.twin (e, z))) s = exec (.testEvIz h e z) s ∧
        ∀ f : ShiftForm, exec f.shlRow6 s = exec (f.instr .shl) s

end ObligationText
end

