-- ==== Sys2Proof/Laws/Decode.lean ====
section
/-!
SUPPORT. The parts of the decoder against the parts of the encoder: prefixes, ModRM, SIB, displacement and immediate,
each read back from the bytes it is written as.
-/
namespace Sys2Proof

/-! ### Fields -/

@[simp] theorem Reg.ofBits_toBits (r : Reg) : Reg.ofBits r.toBits = r := by cases r <;> rfl

@[simp] theorem Base16.ofBits_toBits (b : Base16) : Base16.ofBits b.toBits = b := by cases b <;> rfl

theorem Reg.toBits_ofBits (b : BitVec 3) : (Reg.ofBits b).toBits = b := by revert b; decide

theorem Base16.toBits_ofBits (b : BitVec 3) : (Base16.ofBits b).toBits = b := by revert b; decide

@[simp] theorem modField_modrmByte (m : BitVec 2) (r x : BitVec 3) : modField (modrmByte m r x) = m := by
  revert m r x; decide

@[simp] theorem regField_modrmByte (m : BitVec 2) (r x : BitVec 3) : regField (modrmByte m r x) = r := by
  revert m r x; decide

@[simp] theorem rmField_modrmByte (m : BitVec 2) (r x : BitVec 3) : rmField (modrmByte m r x) = x := by
  revert m r x; decide

/-- A ModRM byte is its fields (30_encoding R310). -/
theorem modrmByte_fields (b : Byte) : modrmByte (modField b) (regField b) (rmField b) = b := by
  unfold modrmByte modField regField rmField
  revert b; decide +kernel

/-! ### Immediates and displacements -/

@[simp] theorem fetch8_cons (b : Byte) (rest : List Byte) : fetch8 (b :: rest) = .done b rest := rfl

@[simp] theorem fetch16_cons (a b : Byte) (rest : List Byte) : fetch16 (a :: b :: rest) = .done (b ++ a) rest := rfl

theorem append_halves16 (v : BitVec 16) : (v.extractLsb' 8 8 ++ v.extractLsb' 0 8 : BitVec (8 + 8)) = v := by
  apply BitVec.eq_of_getLsbD_eq
  intro i hi
  rw [BitVec.getLsbD_append, BitVec.getLsbD_extractLsb', BitVec.getLsbD_extractLsb']
  by_cases h : i < 8
  · simp [h]
  · simp [h, show i - 8 < 8 by omega, show 8 + (i - 8) = i by omega]

@[simp] theorem fetch16_bytes16 (v : BitVec 16) (rest : List Byte) : fetch16 (bytes16 v ++ rest) = .done v rest := by
  simp only [bytes16, List.cons_append, List.nil_append, fetch16_cons, append_halves16]

theorem append_quarters32 (v : BitVec 32) :
    ((v.extractLsb' 24 8 ++ v.extractLsb' 16 8 : BitVec (8 + 8)) ++ (v.extractLsb' 8 8 ++ v.extractLsb' 0 8 : BitVec (8 + 8))
      : BitVec (16 + 16)) = v := by
  apply BitVec.eq_of_getLsbD_eq
  intro i hi
  simp only [BitVec.getLsbD_append, BitVec.getLsbD_extractLsb']
  by_cases h1 : i < 16
  · by_cases h : i < 8
    · simp [h, h1]
    · simp [h, h1, show i - 8 < 8 by omega, show 8 + (i - 8) = i by omega]
  · by_cases h : i - 16 < 8
    · simp [h, h1, show 16 + (i - 16) = i by omega]
    · simp [h, h1, show i - 16 - 8 < 8 by omega, show 24 + (i - 16 - 8) = i by omega]

@[simp] theorem fetch32_bytes32 (v : BitVec 32) (rest : List Byte) : fetch32 (bytes32 v ++ rest) = .done v rest := by
  have h : fetch32 (bytes32 v ++ rest) =
      .done ((v.extractLsb' 24 8 ++ v.extractLsb' 16 8 : BitVec (8 + 8)) ++
        (v.extractLsb' 8 8 ++ v.extractLsb' 0 8 : BitVec (8 + 8)) : BitVec (16 + 16)) rest := rfl
  rw [h, append_quarters32]

@[simp] theorem fetchIb_cons (v : BitVec 8) (rest : List Byte) : fetchIb (v :: rest) = .done v rest := by
  have h : fetchIb (v :: rest) = .done ((v.setWidth 32).setWidth 8) rest := rfl
  rw [h]
  congr 1
  simp

/-- An `Iz` field read back at its operand size (30_encoding R342). -/
theorem fetchIz_encodeImm (z : Size) (v : BitVec 32) (rest : List Byte) (h : (ImmField.iz v).ok z = true) :
    fetchIz z (encodeImm z (.iz v) ++ rest) = .done v rest := by
  cases z with
  | b16 =>
    have h : v.toNat < 2 ^ 16 := by simpa [ImmField.ok] using h
    have e : fetchIz .b16 (encodeImm .b16 (.iz v) ++ rest) =
        (fetch16 (bytes16 (v.setWidth 16) ++ rest)).map (BitVec.setWidth 32) := rfl
    rw [e, fetch16_bytes16]
    show Parse.done ((v.setWidth 16).setWidth 32) rest = _
    congr 1
    apply BitVec.eq_of_toNat_eq
    simp
    omega
  | b32 => exact fetch32_bytes32 v rest

/-! ### The `r/m` operand -/

theorem fetchDisp16_bytes (d : Disp16) (rest : List Byte) : fetchDisp16 d.mod (d.bytes ++ rest) = .done d rest := by
  cases d with
  | none => rfl
  | d8 v => rfl
  | d16 v =>
    show (fetch16 (bytes16 v ++ rest)).map _ = _
    rw [fetch16_bytes16]; rfl

theorem fetchDisp32_bytes (d : Disp32) (rest : List Byte) : fetchDisp32 d.mod (d.bytes ++ rest) = .done d rest := by
  cases d with
  | none => rfl
  | d8 v => rfl
  | d32 v =>
    show (fetch32 (bytes32 v ++ rest)).map _ = _
    rw [fetch32_bytes32]; rfl

theorem Disp16.mod_ne (d : Disp16) : d.mod ≠ 3#2 := by cases d <;> simp [Disp16.mod]

theorem Disp32.mod_ne (d : Disp32) : d.mod ≠ 3#2 := by cases d <;> simp [Disp32.mod]

theorem Disp16.mod_zero (d : Disp16) : d.mod = 0#2 ↔ d = .none := by
  cases d <;> simp [Disp16.mod]

theorem Disp32.mod_zero (d : Disp32) : d.mod = 0#2 ↔ d = .none := by
  cases d <;> simp [Disp32.mod]

/-- A well-formed `r/m` operand is read back from its ModRM byte and what follows it (30_encoding R310-R323). -/
theorem fetchEOperand_encode (reg : BitVec 3) (e : EOperand) (z : Size) (rest : List Byte) (h : e.ok z = true) :
    ∃ b t, encodeEOperand reg e = b :: t ∧ regField b = reg ∧
      fetchEOperand false z b (t ++ rest) = .done e rest := by
  cases e with
  | reg r =>
    refine ⟨_, _, rfl, regField_modrmByte _ _ _, ?_⟩
    simp [fetchEOperand]
  | mem16 b d =>
    simp only [EOperand.ok, Bool.and_eq_true, beq_iff_eq, Bool.not_eq_true', Bool.and_eq_false_iff] at h
    obtain ⟨rfl, hd⟩ := h
    refine ⟨_, _, rfl, regField_modrmByte _ _ _, ?_⟩
    have hne : ¬ (d.mod = 0#2 ∧ b.toBits = 6#3) := by
      rintro ⟨h1, h2⟩
      rw [Disp16.mod_zero] at h1
      subst h1
      cases b <;> simp_all [Base16.toBits]
    simp [fetchEOperand, Disp16.mod_ne, fetchMem16, hne, fetchDisp16_bytes, Parse.map, Parse.bind]
  | direct16 d =>
    simp only [EOperand.ok, beq_iff_eq] at h
    subst h
    refine ⟨_, _, rfl, regField_modrmByte _ _ _, ?_⟩
    simp [fetchEOperand, fetchMem16, Parse.map, Parse.bind]
  | mem32 b d =>
    simp only [EOperand.ok, Bool.and_eq_true, beq_iff_eq, bne_iff_ne, Bool.not_eq_true', Bool.and_eq_false_iff] at h
    obtain ⟨⟨rfl, hb⟩, hd⟩ := h
    refine ⟨_, _, rfl, regField_modrmByte _ _ _, ?_⟩
    have h4 : b.toBits ≠ 4#3 := by cases b <;> simp_all [Reg.toBits]
    have hne : ¬ (d.mod = 0#2 ∧ b.toBits = 5#3) := by
      rintro ⟨h1, h2⟩
      rw [Disp32.mod_zero] at h1
      subst h1
      cases b <;> simp_all [Reg.toBits]
    simp [fetchEOperand, Disp32.mod_ne, fetchMem32, h4, hne, fetchDisp32_bytes, Parse.map, Parse.bind]
  | direct32 d =>
    simp only [EOperand.ok, beq_iff_eq] at h
    subst h
    refine ⟨_, _, rfl, regField_modrmByte _ _ _, ?_⟩
    simp [fetchEOperand, fetchMem32, Parse.map, Parse.bind]
  | sib sc i b d =>
    simp only [EOperand.ok, Bool.and_eq_true, beq_iff_eq, Bool.not_eq_true', Bool.and_eq_false_iff] at h
    obtain ⟨rfl, hd⟩ := h
    refine ⟨_, _, rfl, regField_modrmByte _ _ _, ?_⟩
    have hne : ¬ (d.mod = 0#2 ∧ b.toBits = 5#3) := by
      rintro ⟨h1, h2⟩
      rw [Disp32.mod_zero] at h1
      subst h1
      cases b <;> simp_all [Reg.toBits]
    simp [fetchEOperand, Disp32.mod_ne, fetchMem32, fetchSib, hne, fetchDisp32_bytes, Parse.map, Parse.bind]
  | sibNoBase sc i d =>
    simp only [EOperand.ok, beq_iff_eq] at h
    subst h
    refine ⟨_, _, rfl, regField_modrmByte _ _ _, ?_⟩
    simp [fetchEOperand, fetchMem32, fetchSib, Parse.map, Parse.bind]

/-! ### Prefixes -/

@[simp] theorem prefixByte_toByte (p : Prefix) : prefixByte p.toByte = .accepted p := by
  cases p with
  | seg x => cases x <;> rfl
  | operandSize => rfl
  | addressSize => rfl

/-- Agreeing prefixes are read back, up to a byte that is no prefix (30_encoding R305, R308). -/
theorem scanPrefixes_encode (ps : List Prefix) (seen : Option Seg) (b : Byte) (rest : List Byte)
    (hs : segmentsAgree seen ps = true) (hb : prefixByte b = .opcode) :
    scanPrefixes seen (ps.map Prefix.toByte ++ b :: rest) = .done ps (b :: rest) := by
  induction ps generalizing seen with
  | nil => simp [scanPrefixes, hb]
  | cons p ps ih =>
    simp only [segmentsAgree, Bool.and_eq_true, Bool.not_eq_true'] at hs
    simp [scanPrefixes, hs.1, ih _ hs.2, Parse.map, Parse.bind]

end Sys2Proof
end

