-- ==== Sys2Proof/Laws/State.lean ====
section
/-!
SUPPORT. One lemma per field and update of the state, so that no proof unfolds a record update.
-/
namespace Sys2Proof.Machine

variable (s : State)

@[simp] theorem State.setGpr_gpr (g : Gpr) : (s.setGpr g).gpr = g := rfl
@[simp] theorem State.setGpr_seg (g : Gpr) : (s.setGpr g).seg = s.seg := rfl
@[simp] theorem State.setGpr_eip (g : Gpr) : (s.setGpr g).eip = s.eip := rfl
@[simp] theorem State.setGpr_flags (g : Gpr) : (s.setGpr g).flags = s.flags := rfl
@[simp] theorem State.setGpr_flagsOther (g : Gpr) : (s.setGpr g).flagsOther = s.flagsOther := rfl
@[simp] theorem State.setGpr_accessorCache (g : Gpr) : (s.setGpr g).accessorCache = s.accessorCache := rfl
@[simp] theorem State.setGpr_status (g : Gpr) : (s.setGpr g).status = s.status := rfl
@[simp] theorem State.setGpr_mem (g : Gpr) : (s.setGpr g).mem = s.mem := rfl
@[simp] theorem State.setGpr_params (g : Gpr) : (s.setGpr g).params = s.params := rfl
@[simp] theorem State.setGpr_pending (g : Gpr) : (s.setGpr g).pending = s.pending := rfl
@[simp] theorem State.setGpr_draws (g : Gpr) : (s.setGpr g).draws = s.draws := rfl
@[simp] theorem State.setGpr_busLog (g : Gpr) : (s.setGpr g).busLog = s.busLog := rfl

@[simp] theorem State.setEip_gpr (t : Dword) : (s.setEip t).gpr = s.gpr := rfl
@[simp] theorem State.setEip_seg (t : Dword) : (s.setEip t).seg = s.seg := rfl
@[simp] theorem State.setEip_eip (t : Dword) : (s.setEip t).eip = t := rfl
@[simp] theorem State.setEip_flags (t : Dword) : (s.setEip t).flags = s.flags := rfl
@[simp] theorem State.setEip_flagsOther (t : Dword) : (s.setEip t).flagsOther = s.flagsOther := rfl
@[simp] theorem State.setEip_accessorCache (t : Dword) : (s.setEip t).accessorCache = s.accessorCache := rfl
@[simp] theorem State.setEip_status (t : Dword) : (s.setEip t).status = s.status := rfl
@[simp] theorem State.setEip_mem (t : Dword) : (s.setEip t).mem = s.mem := rfl
@[simp] theorem State.setEip_params (t : Dword) : (s.setEip t).params = s.params := rfl
@[simp] theorem State.setEip_pending (t : Dword) : (s.setEip t).pending = s.pending := rfl
@[simp] theorem State.setEip_draws (t : Dword) : (s.setEip t).draws = s.draws := rfl
@[simp] theorem State.setEip_busLog (t : Dword) : (s.setEip t).busLog = s.busLog := rfl

@[simp] theorem State.setFlags_gpr (f : FlagEngine) : (s.setFlags f).gpr = s.gpr := rfl
@[simp] theorem State.setFlags_seg (f : FlagEngine) : (s.setFlags f).seg = s.seg := rfl
@[simp] theorem State.setFlags_eip (f : FlagEngine) : (s.setFlags f).eip = s.eip := rfl
@[simp] theorem State.setFlags_flags (f : FlagEngine) : (s.setFlags f).flags = f := rfl
@[simp] theorem State.setFlags_flagsOther (f : FlagEngine) : (s.setFlags f).flagsOther = s.flagsOther := rfl
@[simp] theorem State.setFlags_accessorCache (f : FlagEngine) : (s.setFlags f).accessorCache = s.accessorCache := rfl
@[simp] theorem State.setFlags_status (f : FlagEngine) : (s.setFlags f).status = s.status := rfl
@[simp] theorem State.setFlags_mem (f : FlagEngine) : (s.setFlags f).mem = s.mem := rfl
@[simp] theorem State.setFlags_params (f : FlagEngine) : (s.setFlags f).params = s.params := rfl
@[simp] theorem State.setFlags_pending (f : FlagEngine) : (s.setFlags f).pending = s.pending := rfl
@[simp] theorem State.setFlags_draws (f : FlagEngine) : (s.setFlags f).draws = s.draws := rfl
@[simp] theorem State.setFlags_busLog (f : FlagEngine) : (s.setFlags f).busLog = s.busLog := rfl

@[simp] theorem State.setCache_gpr (c : List Shape) : (s.setCache c).gpr = s.gpr := rfl
@[simp] theorem State.setCache_seg (c : List Shape) : (s.setCache c).seg = s.seg := rfl
@[simp] theorem State.setCache_eip (c : List Shape) : (s.setCache c).eip = s.eip := rfl
@[simp] theorem State.setCache_flags (c : List Shape) : (s.setCache c).flags = s.flags := rfl
@[simp] theorem State.setCache_flagsOther (c : List Shape) : (s.setCache c).flagsOther = s.flagsOther := rfl
@[simp] theorem State.setCache_accessorCache (c : List Shape) : (s.setCache c).accessorCache = c := rfl
@[simp] theorem State.setCache_status (c : List Shape) : (s.setCache c).status = s.status := rfl
@[simp] theorem State.setCache_mem (c : List Shape) : (s.setCache c).mem = s.mem := rfl
@[simp] theorem State.setCache_params (c : List Shape) : (s.setCache c).params = s.params := rfl
@[simp] theorem State.setCache_pending (c : List Shape) : (s.setCache c).pending = s.pending := rfl
@[simp] theorem State.setCache_draws (c : List Shape) : (s.setCache c).draws = s.draws := rfl
@[simp] theorem State.setCache_busLog (c : List Shape) : (s.setCache c).busLog = s.busLog := rfl

@[simp] theorem State.setStatus_gpr (r : RunStatus) : (s.setStatus r).gpr = s.gpr := rfl
@[simp] theorem State.setStatus_seg (r : RunStatus) : (s.setStatus r).seg = s.seg := rfl
@[simp] theorem State.setStatus_eip (r : RunStatus) : (s.setStatus r).eip = s.eip := rfl
@[simp] theorem State.setStatus_flags (r : RunStatus) : (s.setStatus r).flags = s.flags := rfl
@[simp] theorem State.setStatus_flagsOther (r : RunStatus) : (s.setStatus r).flagsOther = s.flagsOther := rfl
@[simp] theorem State.setStatus_accessorCache (r : RunStatus) : (s.setStatus r).accessorCache = s.accessorCache := rfl
@[simp] theorem State.setStatus_status (r : RunStatus) : (s.setStatus r).status = r := rfl
@[simp] theorem State.setStatus_mem (r : RunStatus) : (s.setStatus r).mem = s.mem := rfl
@[simp] theorem State.setStatus_params (r : RunStatus) : (s.setStatus r).params = s.params := rfl
@[simp] theorem State.setStatus_pending (r : RunStatus) : (s.setStatus r).pending = s.pending := rfl
@[simp] theorem State.setStatus_draws (r : RunStatus) : (s.setStatus r).draws = s.draws := rfl
@[simp] theorem State.setStatus_busLog (r : RunStatus) : (s.setStatus r).busLog = s.busLog := rfl

@[simp] theorem State.setMem_gpr (m : Memory) : (s.setMem m).gpr = s.gpr := rfl
@[simp] theorem State.setMem_seg (m : Memory) : (s.setMem m).seg = s.seg := rfl
@[simp] theorem State.setMem_eip (m : Memory) : (s.setMem m).eip = s.eip := rfl
@[simp] theorem State.setMem_flags (m : Memory) : (s.setMem m).flags = s.flags := rfl
@[simp] theorem State.setMem_flagsOther (m : Memory) : (s.setMem m).flagsOther = s.flagsOther := rfl
@[simp] theorem State.setMem_accessorCache (m : Memory) : (s.setMem m).accessorCache = s.accessorCache := rfl
@[simp] theorem State.setMem_status (m : Memory) : (s.setMem m).status = s.status := rfl
@[simp] theorem State.setMem_mem (m : Memory) : (s.setMem m).mem = m := rfl
@[simp] theorem State.setMem_params (m : Memory) : (s.setMem m).params = s.params := rfl
@[simp] theorem State.setMem_pending (m : Memory) : (s.setMem m).pending = s.pending := rfl
@[simp] theorem State.setMem_draws (m : Memory) : (s.setMem m).draws = s.draws := rfl
@[simp] theorem State.setMem_busLog (m : Memory) : (s.setMem m).busLog = s.busLog := rfl

@[simp] theorem State.record_gpr (c : BusCall) : (s.record c).gpr = s.gpr := rfl
@[simp] theorem State.record_seg (c : BusCall) : (s.record c).seg = s.seg := rfl
@[simp] theorem State.record_eip (c : BusCall) : (s.record c).eip = s.eip := rfl
@[simp] theorem State.record_flags (c : BusCall) : (s.record c).flags = s.flags := rfl
@[simp] theorem State.record_flagsOther (c : BusCall) : (s.record c).flagsOther = s.flagsOther := rfl
@[simp] theorem State.record_accessorCache (c : BusCall) : (s.record c).accessorCache = s.accessorCache := rfl
@[simp] theorem State.record_status (c : BusCall) : (s.record c).status = s.status := rfl
@[simp] theorem State.record_mem (c : BusCall) : (s.record c).mem = s.mem := rfl
@[simp] theorem State.record_params (c : BusCall) : (s.record c).params = s.params := rfl
@[simp] theorem State.record_pending (c : BusCall) : (s.record c).pending = s.pending := rfl
@[simp] theorem State.record_draws (c : BusCall) : (s.record c).draws = s.draws := rfl
@[simp] theorem State.record_busLog (c : BusCall) : (s.record c).busLog = c :: s.busLog := rfl

@[simp] theorem State.setDraws_gpr (n : Nat) : (s.setDraws n).gpr = s.gpr := rfl
@[simp] theorem State.setDraws_seg (n : Nat) : (s.setDraws n).seg = s.seg := rfl
@[simp] theorem State.setDraws_eip (n : Nat) : (s.setDraws n).eip = s.eip := rfl
@[simp] theorem State.setDraws_flags (n : Nat) : (s.setDraws n).flags = s.flags := rfl
@[simp] theorem State.setDraws_flagsOther (n : Nat) : (s.setDraws n).flagsOther = s.flagsOther := rfl
@[simp] theorem State.setDraws_accessorCache (n : Nat) : (s.setDraws n).accessorCache = s.accessorCache := rfl
@[simp] theorem State.setDraws_status (n : Nat) : (s.setDraws n).status = s.status := rfl
@[simp] theorem State.setDraws_mem (n : Nat) : (s.setDraws n).mem = s.mem := rfl
@[simp] theorem State.setDraws_params (n : Nat) : (s.setDraws n).params = s.params := rfl
@[simp] theorem State.setDraws_pending (n : Nat) : (s.setDraws n).pending = s.pending := rfl
@[simp] theorem State.setDraws_draws (n : Nat) : (s.setDraws n).draws = n := rfl
@[simp] theorem State.setDraws_busLog (n : Nat) : (s.setDraws n).busLog = s.busLog := rfl

@[simp] theorem State.takeOffer_gpr : s.takeOffer.gpr = s.gpr := rfl
@[simp] theorem State.takeOffer_seg : s.takeOffer.seg = s.seg := rfl
@[simp] theorem State.takeOffer_eip : s.takeOffer.eip = s.eip := rfl
@[simp] theorem State.takeOffer_flags : s.takeOffer.flags = s.flags := rfl
@[simp] theorem State.takeOffer_flagsOther : s.takeOffer.flagsOther = s.flagsOther := rfl
@[simp] theorem State.takeOffer_accessorCache : s.takeOffer.accessorCache = s.accessorCache := rfl
@[simp] theorem State.takeOffer_status : s.takeOffer.status = s.status := rfl
@[simp] theorem State.takeOffer_mem : s.takeOffer.mem = s.mem := rfl
@[simp] theorem State.takeOffer_params : s.takeOffer.params = s.params := rfl
@[simp] theorem State.takeOffer_pending : s.takeOffer.pending = s.pending.tail := rfl
@[simp] theorem State.takeOffer_draws : s.takeOffer.draws = s.draws := rfl
@[simp] theorem State.takeOffer_busLog : s.takeOffer.busLog = s.busLog := rfl

end Sys2Proof.Machine
end

