-- ==== Sys2Proof/Laws/Ops.lean ====
section
/-!
SUPPORT. What the shared operations leave alone, field by field, and what they leave where it is said in one line.
-/
namespace Sys2Proof.Machine

variable (s : State)

@[simp] theorem State.writeReg_gpr (w : Width) (r : Reg) (v : BitVec w.bits) :
    (s.writeReg w r v).gpr = s.gpr.write w r v := rfl
@[simp] theorem State.writeReg_seg (w : Width) (r : Reg) (v : BitVec w.bits) : (s.writeReg w r v).seg = s.seg := rfl
@[simp] theorem State.writeReg_eip (w : Width) (r : Reg) (v : BitVec w.bits) : (s.writeReg w r v).eip = s.eip := rfl
@[simp] theorem State.writeReg_flags (w : Width) (r : Reg) (v : BitVec w.bits) :
    (s.writeReg w r v).flags = s.flags := rfl
@[simp] theorem State.writeReg_flagsOther (w : Width) (r : Reg) (v : BitVec w.bits) :
    (s.writeReg w r v).flagsOther = s.flagsOther := rfl
@[simp] theorem State.writeReg_accessorCache (w : Width) (r : Reg) (v : BitVec w.bits) :
    (s.writeReg w r v).accessorCache = s.accessorCache := rfl
@[simp] theorem State.writeReg_status (w : Width) (r : Reg) (v : BitVec w.bits) :
    (s.writeReg w r v).status = s.status := rfl
@[simp] theorem State.writeReg_mem (w : Width) (r : Reg) (v : BitVec w.bits) : (s.writeReg w r v).mem = s.mem := rfl
@[simp] theorem State.writeReg_params (w : Width) (r : Reg) (v : BitVec w.bits) :
    (s.writeReg w r v).params = s.params := rfl
@[simp] theorem State.writeReg_pending (w : Width) (r : Reg) (v : BitVec w.bits) :
    (s.writeReg w r v).pending = s.pending := rfl
@[simp] theorem State.writeReg_draws (w : Width) (r : Reg) (v : BitVec w.bits) :
    (s.writeReg w r v).draws = s.draws := rfl
@[simp] theorem State.writeReg_busLog (w : Width) (r : Reg) (v : BitVec w.bits) :
    (s.writeReg w r v).busLog = s.busLog := rfl

@[simp] theorem State.advance_gpr (n : Nat) : (s.advance n).gpr = s.gpr := rfl
@[simp] theorem State.advance_seg (n : Nat) : (s.advance n).seg = s.seg := rfl
@[simp] theorem State.advance_eip (n : Nat) : (s.advance n).eip = s.ipwrap (s.eip + BitVec.ofNat 32 n) := rfl
@[simp] theorem State.advance_flags (n : Nat) : (s.advance n).flags = s.flags := rfl
@[simp] theorem State.advance_flagsOther (n : Nat) : (s.advance n).flagsOther = s.flagsOther := rfl
@[simp] theorem State.advance_accessorCache (n : Nat) : (s.advance n).accessorCache = s.accessorCache := rfl
@[simp] theorem State.advance_status (n : Nat) : (s.advance n).status = s.status := rfl
@[simp] theorem State.advance_mem (n : Nat) : (s.advance n).mem = s.mem := rfl
@[simp] theorem State.advance_params (n : Nat) : (s.advance n).params = s.params := rfl
@[simp] theorem State.advance_pending (n : Nat) : (s.advance n).pending = s.pending := rfl
@[simp] theorem State.advance_draws (n : Nat) : (s.advance n).draws = s.draws := rfl
@[simp] theorem State.advance_busLog (n : Nat) : (s.advance n).busLog = s.busLog := rfl

@[simp] theorem State.drawIfMmio_gpr (w : Width) (lin : Dword) :
    (s.drawIfMmio w lin).gpr = s.gpr := by unfold State.drawIfMmio; split <;> rfl
@[simp] theorem State.drawIfMmio_seg (w : Width) (lin : Dword) :
    (s.drawIfMmio w lin).seg = s.seg := by unfold State.drawIfMmio; split <;> rfl
@[simp] theorem State.drawIfMmio_eip (w : Width) (lin : Dword) :
    (s.drawIfMmio w lin).eip = s.eip := by unfold State.drawIfMmio; split <;> rfl
@[simp] theorem State.drawIfMmio_flags (w : Width) (lin : Dword) :
    (s.drawIfMmio w lin).flags = s.flags := by unfold State.drawIfMmio; split <;> rfl
@[simp] theorem State.drawIfMmio_flagsOther (w : Width) (lin : Dword) :
    (s.drawIfMmio w lin).flagsOther = s.flagsOther := by unfold State.drawIfMmio; split <;> rfl
@[simp] theorem State.drawIfMmio_accessorCache (w : Width) (lin : Dword) :
    (s.drawIfMmio w lin).accessorCache = s.accessorCache := by unfold State.drawIfMmio; split <;> rfl
@[simp] theorem State.drawIfMmio_status (w : Width) (lin : Dword) :
    (s.drawIfMmio w lin).status = s.status := by unfold State.drawIfMmio; split <;> rfl
@[simp] theorem State.drawIfMmio_mem (w : Width) (lin : Dword) :
    (s.drawIfMmio w lin).mem = s.mem := by unfold State.drawIfMmio; split <;> rfl
@[simp] theorem State.drawIfMmio_params (w : Width) (lin : Dword) :
    (s.drawIfMmio w lin).params = s.params := by unfold State.drawIfMmio; split <;> rfl
@[simp] theorem State.drawIfMmio_pending (w : Width) (lin : Dword) :
    (s.drawIfMmio w lin).pending = s.pending := by unfold State.drawIfMmio; split <;> rfl
@[simp] theorem State.drawIfMmio_busLog (w : Width) (lin : Dword) :
    (s.drawIfMmio w lin).busLog = s.busLog := by unfold State.drawIfMmio; split <;> rfl

@[simp] theorem State.memRead_gpr (w : Width) (lin : Dword) :
    ((s.memRead w lin).2).gpr = s.gpr := by simp [State.memRead]
@[simp] theorem State.memRead_seg (w : Width) (lin : Dword) :
    ((s.memRead w lin).2).seg = s.seg := by simp [State.memRead]
@[simp] theorem State.memRead_eip (w : Width) (lin : Dword) :
    ((s.memRead w lin).2).eip = s.eip := by simp [State.memRead]
@[simp] theorem State.memRead_flags (w : Width) (lin : Dword) :
    ((s.memRead w lin).2).flags = s.flags := by simp [State.memRead]
@[simp] theorem State.memRead_flagsOther (w : Width) (lin : Dword) :
    ((s.memRead w lin).2).flagsOther = s.flagsOther := by simp [State.memRead]
@[simp] theorem State.memRead_accessorCache (w : Width) (lin : Dword) :
    ((s.memRead w lin).2).accessorCache = s.accessorCache := by simp [State.memRead]
@[simp] theorem State.memRead_status (w : Width) (lin : Dword) :
    ((s.memRead w lin).2).status = s.status := by simp [State.memRead]
@[simp] theorem State.memRead_mem (w : Width) (lin : Dword) :
    ((s.memRead w lin).2).mem = s.mem := by simp [State.memRead]
@[simp] theorem State.memRead_params (w : Width) (lin : Dword) :
    ((s.memRead w lin).2).params = s.params := by simp [State.memRead]
@[simp] theorem State.memRead_pending (w : Width) (lin : Dword) :
    ((s.memRead w lin).2).pending = s.pending := by simp [State.memRead]
@[simp] theorem State.memRead_busLog (w : Width) (lin : Dword) :
    ((s.memRead w lin).2).busLog = .memRead lin w ((s.memValue w lin).setWidth 32) :: s.busLog := by simp [State.memRead]

@[simp] theorem State.portRead_gpr (w : Width) (p : BitVec 16) : ((s.portRead w p).2).gpr = s.gpr := rfl
@[simp] theorem State.portRead_seg (w : Width) (p : BitVec 16) : ((s.portRead w p).2).seg = s.seg := rfl
@[simp] theorem State.portRead_eip (w : Width) (p : BitVec 16) : ((s.portRead w p).2).eip = s.eip := rfl
@[simp] theorem State.portRead_flags (w : Width) (p : BitVec 16) : ((s.portRead w p).2).flags = s.flags := rfl
@[simp] theorem State.portRead_flagsOther (w : Width) (p : BitVec 16) :
    ((s.portRead w p).2).flagsOther = s.flagsOther := rfl
@[simp] theorem State.portRead_accessorCache (w : Width) (p : BitVec 16) :
    ((s.portRead w p).2).accessorCache = s.accessorCache := rfl
@[simp] theorem State.portRead_status (w : Width) (p : BitVec 16) : ((s.portRead w p).2).status = s.status := rfl
@[simp] theorem State.portRead_mem (w : Width) (p : BitVec 16) : ((s.portRead w p).2).mem = s.mem := rfl
@[simp] theorem State.portRead_params (w : Width) (p : BitVec 16) : ((s.portRead w p).2).params = s.params := rfl
@[simp] theorem State.portRead_pending (w : Width) (p : BitVec 16) : ((s.portRead w p).2).pending = s.pending := rfl
@[simp] theorem State.portRead_draws (w : Width) (p : BitVec 16) : ((s.portRead w p).2).draws = s.draws + 1 := rfl
@[simp] theorem State.portRead_busLog (w : Width) (p : BitVec 16) :
    ((s.portRead w p).2).busLog = .portRead p w ((s.portValue w).setWidth 32) :: s.busLog := rfl

@[simp] theorem State.portWrite_gpr (w : Width) (p : BitVec 16) (v : BitVec w.bits) :
    (s.portWrite w p v).gpr = s.gpr := rfl
@[simp] theorem State.portWrite_seg (w : Width) (p : BitVec 16) (v : BitVec w.bits) :
    (s.portWrite w p v).seg = s.seg := rfl
@[simp] theorem State.portWrite_eip (w : Width) (p : BitVec 16) (v : BitVec w.bits) :
    (s.portWrite w p v).eip = s.eip := rfl
@[simp] theorem State.portWrite_flags (w : Width) (p : BitVec 16) (v : BitVec w.bits) :
    (s.portWrite w p v).flags = s.flags := rfl
@[simp] theorem State.portWrite_flagsOther (w : Width) (p : BitVec 16) (v : BitVec w.bits) :
    (s.portWrite w p v).flagsOther = s.flagsOther := rfl
@[simp] theorem State.portWrite_accessorCache (w : Width) (p : BitVec 16) (v : BitVec w.bits) :
    (s.portWrite w p v).accessorCache = s.accessorCache := rfl
@[simp] theorem State.portWrite_status (w : Width) (p : BitVec 16) (v : BitVec w.bits) :
    (s.portWrite w p v).status = s.status := rfl
@[simp] theorem State.portWrite_mem (w : Width) (p : BitVec 16) (v : BitVec w.bits) :
    (s.portWrite w p v).mem = s.mem := rfl
@[simp] theorem State.portWrite_params (w : Width) (p : BitVec 16) (v : BitVec w.bits) :
    (s.portWrite w p v).params = s.params := rfl
@[simp] theorem State.portWrite_pending (w : Width) (p : BitVec 16) (v : BitVec w.bits) :
    (s.portWrite w p v).pending = s.pending := rfl
@[simp] theorem State.portWrite_draws (w : Width) (p : BitVec 16) (v : BitVec w.bits) :
    (s.portWrite w p v).draws = s.draws := rfl
@[simp] theorem State.portWrite_busLog (w : Width) (p : BitVec 16) (v : BitVec w.bits) :
    (s.portWrite w p v).busLog = .portWrite p w (v.setWidth 32) :: s.busLog := rfl

@[simp] theorem State.storeByte_gpr {n : Nat} (lin : Dword) (v : BitVec n) (j : Nat) :
    (State.storeByte lin v s j).gpr = s.gpr := by unfold State.storeByte; split <;> rfl
@[simp] theorem State.storeByte_seg {n : Nat} (lin : Dword) (v : BitVec n) (j : Nat) :
    (State.storeByte lin v s j).seg = s.seg := by unfold State.storeByte; split <;> rfl
@[simp] theorem State.storeByte_eip {n : Nat} (lin : Dword) (v : BitVec n) (j : Nat) :
    (State.storeByte lin v s j).eip = s.eip := by unfold State.storeByte; split <;> rfl
@[simp] theorem State.storeByte_flags {n : Nat} (lin : Dword) (v : BitVec n) (j : Nat) :
    (State.storeByte lin v s j).flags = s.flags := by unfold State.storeByte; split <;> rfl
@[simp] theorem State.storeByte_flagsOther {n : Nat} (lin : Dword) (v : BitVec n) (j : Nat) :
    (State.storeByte lin v s j).flagsOther = s.flagsOther := by unfold State.storeByte; split <;> rfl
@[simp] theorem State.storeByte_accessorCache {n : Nat} (lin : Dword) (v : BitVec n) (j : Nat) :
    (State.storeByte lin v s j).accessorCache = s.accessorCache := by unfold State.storeByte; split <;> rfl
@[simp] theorem State.storeByte_status {n : Nat} (lin : Dword) (v : BitVec n) (j : Nat) :
    (State.storeByte lin v s j).status = s.status := by unfold State.storeByte; split <;> rfl
@[simp] theorem State.storeByte_params {n : Nat} (lin : Dword) (v : BitVec n) (j : Nat) :
    (State.storeByte lin v s j).params = s.params := by unfold State.storeByte; split <;> rfl
@[simp] theorem State.storeByte_pending {n : Nat} (lin : Dword) (v : BitVec n) (j : Nat) :
    (State.storeByte lin v s j).pending = s.pending := by unfold State.storeByte; split <;> rfl
@[simp] theorem State.storeByte_draws {n : Nat} (lin : Dword) (v : BitVec n) (j : Nat) :
    (State.storeByte lin v s j).draws = s.draws := by unfold State.storeByte; split <;> rfl
@[simp] theorem State.storeByte_busLog {n : Nat} (lin : Dword) (v : BitVec n) (j : Nat) :
    (State.storeByte lin v s j).busLog = s.busLog := by unfold State.storeByte; split <;> rfl

@[simp] theorem State.fetchByte_gpr (k : Nat) : ((s.fetchByte k).2).gpr = s.gpr := by simp [State.fetchByte]
@[simp] theorem State.fetchByte_seg (k : Nat) : ((s.fetchByte k).2).seg = s.seg := by simp [State.fetchByte]
@[simp] theorem State.fetchByte_eip (k : Nat) : ((s.fetchByte k).2).eip = s.eip := by simp [State.fetchByte]
@[simp] theorem State.fetchByte_flags (k : Nat) : ((s.fetchByte k).2).flags = s.flags := by simp [State.fetchByte]
@[simp] theorem State.fetchByte_flagsOther (k : Nat) :
    ((s.fetchByte k).2).flagsOther = s.flagsOther := by simp [State.fetchByte]
@[simp] theorem State.fetchByte_accessorCache (k : Nat) :
    ((s.fetchByte k).2).accessorCache = s.accessorCache := by simp [State.fetchByte]
@[simp] theorem State.fetchByte_status (k : Nat) : ((s.fetchByte k).2).status = s.status := by simp [State.fetchByte]
@[simp] theorem State.fetchByte_mem (k : Nat) : ((s.fetchByte k).2).mem = s.mem := by simp [State.fetchByte]
@[simp] theorem State.fetchByte_params (k : Nat) : ((s.fetchByte k).2).params = s.params := by simp [State.fetchByte]
@[simp] theorem State.fetchByte_pending (k : Nat) :
    ((s.fetchByte k).2).pending = s.pending := by simp [State.fetchByte]

@[simp] theorem State.stopRun_gpr (e : Event) : (s.stopRun e).gpr = s.gpr := by cases e <;> rfl
@[simp] theorem State.stopRun_seg (e : Event) : (s.stopRun e).seg = s.seg := by cases e <;> rfl
@[simp] theorem State.stopRun_eip (e : Event) : (s.stopRun e).eip = s.eip := by cases e <;> rfl
@[simp] theorem State.stopRun_flags (e : Event) : (s.stopRun e).flags = s.flags := by cases e <;> rfl
@[simp] theorem State.stopRun_flagsOther (e : Event) : (s.stopRun e).flagsOther = s.flagsOther := by cases e <;> rfl
@[simp] theorem State.stopRun_accessorCache (e : Event) :
    (s.stopRun e).accessorCache = s.accessorCache := by cases e <;> rfl
@[simp] theorem State.stopRun_mem (e : Event) : (s.stopRun e).mem = s.mem := by cases e <;> rfl
@[simp] theorem State.stopRun_params (e : Event) : (s.stopRun e).params = s.params := by cases e <;> rfl
@[simp] theorem State.stopRun_pending (e : Event) : (s.stopRun e).pending = s.pending := by cases e <;> rfl
@[simp] theorem State.stopRun_draws (e : Event) : (s.stopRun e).draws = s.draws := by cases e <;> rfl
@[simp] theorem State.stopRun_busLog (e : Event) : (s.stopRun e).busLog = s.busLog := by cases e <;> rfl

@[simp] theorem State.refuse_gpr (r : RefuseReason) : (s.refuse r).gpr = s.gpr := rfl
@[simp] theorem State.refuse_seg (r : RefuseReason) : (s.refuse r).seg = s.seg := rfl
@[simp] theorem State.refuse_eip (r : RefuseReason) : (s.refuse r).eip = s.eip := rfl
@[simp] theorem State.refuse_flags (r : RefuseReason) : (s.refuse r).flags = s.flags := rfl
@[simp] theorem State.refuse_flagsOther (r : RefuseReason) : (s.refuse r).flagsOther = s.flagsOther := rfl
@[simp] theorem State.refuse_accessorCache (r : RefuseReason) : (s.refuse r).accessorCache = s.accessorCache := rfl
@[simp] theorem State.refuse_status (r : RefuseReason) : (s.refuse r).status = .refused r := rfl
@[simp] theorem State.refuse_mem (r : RefuseReason) : (s.refuse r).mem = s.mem := rfl
@[simp] theorem State.refuse_params (r : RefuseReason) : (s.refuse r).params = s.params := rfl
@[simp] theorem State.refuse_pending (r : RefuseReason) : (s.refuse r).pending = s.pending := rfl
@[simp] theorem State.refuse_draws (r : RefuseReason) : (s.refuse r).draws = s.draws := rfl
@[simp] theorem State.refuse_busLog (r : RefuseReason) : (s.refuse r).busLog = s.busLog := rfl

@[simp] theorem State.decodeFault_gpr (r : DecodeFaultReason) : (s.decodeFault r).gpr = s.gpr := rfl
@[simp] theorem State.decodeFault_seg (r : DecodeFaultReason) : (s.decodeFault r).seg = s.seg := rfl
@[simp] theorem State.decodeFault_eip (r : DecodeFaultReason) : (s.decodeFault r).eip = s.eip := rfl
@[simp] theorem State.decodeFault_flags (r : DecodeFaultReason) : (s.decodeFault r).flags = s.flags := rfl
@[simp] theorem State.decodeFault_flagsOther (r : DecodeFaultReason) :
    (s.decodeFault r).flagsOther = s.flagsOther := rfl
@[simp] theorem State.decodeFault_accessorCache (r : DecodeFaultReason) :
    (s.decodeFault r).accessorCache = s.accessorCache := rfl
@[simp] theorem State.decodeFault_status (r : DecodeFaultReason) : (s.decodeFault r).status = .fatal r := rfl
@[simp] theorem State.decodeFault_mem (r : DecodeFaultReason) : (s.decodeFault r).mem = s.mem := rfl
@[simp] theorem State.decodeFault_params (r : DecodeFaultReason) : (s.decodeFault r).params = s.params := rfl
@[simp] theorem State.decodeFault_pending (r : DecodeFaultReason) : (s.decodeFault r).pending = s.pending := rfl
@[simp] theorem State.decodeFault_draws (r : DecodeFaultReason) : (s.decodeFault r).draws = s.draws := rfl
@[simp] theorem State.decodeFault_busLog (r : DecodeFaultReason) : (s.decodeFault r).busLog = s.busLog := rfl

@[simp] theorem State.readFlag_gpr (f : Flag) : ((s.readFlag f).2).gpr = s.gpr := rfl
@[simp] theorem State.readFlag_seg (f : Flag) : ((s.readFlag f).2).seg = s.seg := rfl
@[simp] theorem State.readFlag_eip (f : Flag) : ((s.readFlag f).2).eip = s.eip := rfl
@[simp] theorem State.readFlag_flags (f : Flag) : ((s.readFlag f).2).flags = s.flags.resolve f := rfl
@[simp] theorem State.readFlag_flagsOther (f : Flag) : ((s.readFlag f).2).flagsOther = s.flagsOther := rfl
@[simp] theorem State.readFlag_accessorCache (f : Flag) : ((s.readFlag f).2).accessorCache = s.accessorCache := rfl
@[simp] theorem State.readFlag_status (f : Flag) : ((s.readFlag f).2).status = s.status := rfl
@[simp] theorem State.readFlag_mem (f : Flag) : ((s.readFlag f).2).mem = s.mem := rfl
@[simp] theorem State.readFlag_params (f : Flag) : ((s.readFlag f).2).params = s.params := rfl
@[simp] theorem State.readFlag_pending (f : Flag) : ((s.readFlag f).2).pending = s.pending := rfl
@[simp] theorem State.readFlag_draws (f : Flag) : ((s.readFlag f).2).draws = s.draws := rfl
@[simp] theorem State.readFlag_busLog (f : Flag) : ((s.readFlag f).2).busLog = s.busLog := rfl

@[simp] theorem State.writeFlags_gpr (a : FlagActions) : (s.writeFlags a).gpr = s.gpr := rfl
@[simp] theorem State.writeFlags_seg (a : FlagActions) : (s.writeFlags a).seg = s.seg := rfl
@[simp] theorem State.writeFlags_eip (a : FlagActions) : (s.writeFlags a).eip = s.eip := rfl
@[simp] theorem State.writeFlags_flags (a : FlagActions) :
    (s.writeFlags a).flags = (FlagEngine.write a (s.flags, s.draws)).1 := rfl
@[simp] theorem State.writeFlags_flagsOther (a : FlagActions) : (s.writeFlags a).flagsOther = s.flagsOther := rfl
@[simp] theorem State.writeFlags_accessorCache (a : FlagActions) :
    (s.writeFlags a).accessorCache = s.accessorCache := rfl
@[simp] theorem State.writeFlags_status (a : FlagActions) : (s.writeFlags a).status = s.status := rfl
@[simp] theorem State.writeFlags_mem (a : FlagActions) : (s.writeFlags a).mem = s.mem := rfl
@[simp] theorem State.writeFlags_params (a : FlagActions) : (s.writeFlags a).params = s.params := rfl
@[simp] theorem State.writeFlags_pending (a : FlagActions) : (s.writeFlags a).pending = s.pending := rfl
@[simp] theorem State.writeFlags_draws (a : FlagActions) :
    (s.writeFlags a).draws = (FlagEngine.write a (s.flags, s.draws)).2 := rfl
@[simp] theorem State.writeFlags_busLog (a : FlagActions) : (s.writeFlags a).busLog = s.busLog := rfl

@[simp] theorem State.readCond_gpr (c : Cond) : ((s.readCond c).2).gpr = s.gpr := by cases c <;> rfl
@[simp] theorem State.readCond_seg (c : Cond) : ((s.readCond c).2).seg = s.seg := by cases c <;> rfl
@[simp] theorem State.readCond_eip (c : Cond) : ((s.readCond c).2).eip = s.eip := by cases c <;> rfl
@[simp] theorem State.readCond_flagsOther (c : Cond) :
    ((s.readCond c).2).flagsOther = s.flagsOther := by cases c <;> rfl
@[simp] theorem State.readCond_accessorCache (c : Cond) :
    ((s.readCond c).2).accessorCache = s.accessorCache := by cases c <;> rfl
@[simp] theorem State.readCond_status (c : Cond) : ((s.readCond c).2).status = s.status := by cases c <;> rfl
@[simp] theorem State.readCond_mem (c : Cond) : ((s.readCond c).2).mem = s.mem := by cases c <;> rfl
@[simp] theorem State.readCond_params (c : Cond) : ((s.readCond c).2).params = s.params := by cases c <;> rfl
@[simp] theorem State.readCond_pending (c : Cond) : ((s.readCond c).2).pending = s.pending := by cases c <;> rfl
@[simp] theorem State.readCond_draws (c : Cond) : ((s.readCond c).2).draws = s.draws := by cases c <;> rfl
@[simp] theorem State.readCond_busLog (c : Cond) : ((s.readCond c).2).busLog = s.busLog := by cases c <;> rfl

@[simp] theorem State.getOrCreate_gpr (x : Shape) :
    (s.getOrCreate x).gpr = s.gpr := by unfold State.getOrCreate; split <;> rfl
@[simp] theorem State.getOrCreate_seg (x : Shape) :
    (s.getOrCreate x).seg = s.seg := by unfold State.getOrCreate; split <;> rfl
@[simp] theorem State.getOrCreate_eip (x : Shape) :
    (s.getOrCreate x).eip = s.eip := by unfold State.getOrCreate; split <;> rfl
@[simp] theorem State.getOrCreate_flags (x : Shape) :
    (s.getOrCreate x).flags = s.flags := by unfold State.getOrCreate; split <;> rfl
@[simp] theorem State.getOrCreate_flagsOther (x : Shape) :
    (s.getOrCreate x).flagsOther = s.flagsOther := by unfold State.getOrCreate; split <;> rfl
@[simp] theorem State.getOrCreate_status (x : Shape) :
    (s.getOrCreate x).status = s.status := by unfold State.getOrCreate; split <;> rfl
@[simp] theorem State.getOrCreate_mem (x : Shape) :
    (s.getOrCreate x).mem = s.mem := by unfold State.getOrCreate; split <;> rfl
@[simp] theorem State.getOrCreate_params (x : Shape) :
    (s.getOrCreate x).params = s.params := by unfold State.getOrCreate; split <;> rfl
@[simp] theorem State.getOrCreate_pending (x : Shape) :
    (s.getOrCreate x).pending = s.pending := by unfold State.getOrCreate; split <;> rfl
@[simp] theorem State.getOrCreate_draws (x : Shape) :
    (s.getOrCreate x).draws = s.draws := by unfold State.getOrCreate; split <;> rfl
@[simp] theorem State.getOrCreate_busLog (x : Shape) :
    (s.getOrCreate x).busLog = s.busLog := by unfold State.getOrCreate; split <;> rfl

/-- What requesting shapes keeps, since requesting one does. -/
theorem State.requestAll_keeps {α : Type} (f : State → α) (hf : ∀ (t : State) (x : Shape), f (t.getOrCreate x) = f t)
    (xs : List Shape) (s : State) : f (s.requestAll xs) = f s := by
  induction xs generalizing s with
  | nil => rfl
  | cons x xs ih => exact (ih (s.getOrCreate x)).trans (hf s x)

@[simp] theorem State.requestAll_gpr (xs : List Shape) :
    (s.requestAll xs).gpr = s.gpr := State.requestAll_keeps State.gpr (fun _ _ => by simp) xs s
@[simp] theorem State.requestAll_seg (xs : List Shape) :
    (s.requestAll xs).seg = s.seg := State.requestAll_keeps State.seg (fun _ _ => by simp) xs s
@[simp] theorem State.requestAll_eip (xs : List Shape) :
    (s.requestAll xs).eip = s.eip := State.requestAll_keeps State.eip (fun _ _ => by simp) xs s
@[simp] theorem State.requestAll_flags (xs : List Shape) :
    (s.requestAll xs).flags = s.flags := State.requestAll_keeps State.flags (fun _ _ => by simp) xs s
@[simp] theorem State.requestAll_flagsOther (xs : List Shape) :
    (s.requestAll xs).flagsOther = s.flagsOther := State.requestAll_keeps State.flagsOther (fun _ _ => by simp) xs s
@[simp] theorem State.requestAll_status (xs : List Shape) :
    (s.requestAll xs).status = s.status := State.requestAll_keeps State.status (fun _ _ => by simp) xs s
@[simp] theorem State.requestAll_mem (xs : List Shape) :
    (s.requestAll xs).mem = s.mem := State.requestAll_keeps State.mem (fun _ _ => by simp) xs s
@[simp] theorem State.requestAll_params (xs : List Shape) :
    (s.requestAll xs).params = s.params := State.requestAll_keeps State.params (fun _ _ => by simp) xs s
@[simp] theorem State.requestAll_pending (xs : List Shape) :
    (s.requestAll xs).pending = s.pending := State.requestAll_keeps State.pending (fun _ _ => by simp) xs s
@[simp] theorem State.requestAll_draws (xs : List Shape) :
    (s.requestAll xs).draws = s.draws := State.requestAll_keeps State.draws (fun _ _ => by simp) xs s
@[simp] theorem State.requestAll_busLog (xs : List Shape) :
    (s.requestAll xs).busLog = s.busLog := State.requestAll_keeps State.busLog (fun _ _ => by simp) xs s

@[simp] theorem State.requestFixed_gpr (h : Head) (m : AccessMode) (rs : List (Width × Reg)) :
    (s.requestFixed h m rs).gpr = s.gpr := by simp [State.requestFixed]
@[simp] theorem State.requestFixed_seg (h : Head) (m : AccessMode) (rs : List (Width × Reg)) :
    (s.requestFixed h m rs).seg = s.seg := by simp [State.requestFixed]
@[simp] theorem State.requestFixed_eip (h : Head) (m : AccessMode) (rs : List (Width × Reg)) :
    (s.requestFixed h m rs).eip = s.eip := by simp [State.requestFixed]
@[simp] theorem State.requestFixed_flags (h : Head) (m : AccessMode) (rs : List (Width × Reg)) :
    (s.requestFixed h m rs).flags = s.flags := by simp [State.requestFixed]
@[simp] theorem State.requestFixed_flagsOther (h : Head) (m : AccessMode) (rs : List (Width × Reg)) :
    (s.requestFixed h m rs).flagsOther = s.flagsOther := by simp [State.requestFixed]
@[simp] theorem State.requestFixed_status (h : Head) (m : AccessMode) (rs : List (Width × Reg)) :
    (s.requestFixed h m rs).status = s.status := by simp [State.requestFixed]
@[simp] theorem State.requestFixed_mem (h : Head) (m : AccessMode) (rs : List (Width × Reg)) :
    (s.requestFixed h m rs).mem = s.mem := by simp [State.requestFixed]
@[simp] theorem State.requestFixed_params (h : Head) (m : AccessMode) (rs : List (Width × Reg)) :
    (s.requestFixed h m rs).params = s.params := by simp [State.requestFixed]
@[simp] theorem State.requestFixed_pending (h : Head) (m : AccessMode) (rs : List (Width × Reg)) :
    (s.requestFixed h m rs).pending = s.pending := by simp [State.requestFixed]
@[simp] theorem State.requestFixed_draws (h : Head) (m : AccessMode) (rs : List (Width × Reg)) :
    (s.requestFixed h m rs).draws = s.draws := by simp [State.requestFixed]
@[simp] theorem State.requestFixed_busLog (h : Head) (m : AccessMode) (rs : List (Width × Reg)) :
    (s.requestFixed h m rs).busLog = s.busLog := by simp [State.requestFixed]

@[simp] theorem State.loadLoc_gpr (w : Width) (l : Loc) :
    ((s.loadLoc w l).2).gpr = s.gpr := by cases l <;> simp [State.loadLoc]
@[simp] theorem State.loadLoc_seg (w : Width) (l : Loc) :
    ((s.loadLoc w l).2).seg = s.seg := by cases l <;> simp [State.loadLoc]
@[simp] theorem State.loadLoc_eip (w : Width) (l : Loc) :
    ((s.loadLoc w l).2).eip = s.eip := by cases l <;> simp [State.loadLoc]
@[simp] theorem State.loadLoc_flags (w : Width) (l : Loc) :
    ((s.loadLoc w l).2).flags = s.flags := by cases l <;> simp [State.loadLoc]
@[simp] theorem State.loadLoc_flagsOther (w : Width) (l : Loc) :
    ((s.loadLoc w l).2).flagsOther = s.flagsOther := by cases l <;> simp [State.loadLoc]
@[simp] theorem State.loadLoc_accessorCache (w : Width) (l : Loc) :
    ((s.loadLoc w l).2).accessorCache = s.accessorCache := by cases l <;> simp [State.loadLoc]
@[simp] theorem State.loadLoc_status (w : Width) (l : Loc) :
    ((s.loadLoc w l).2).status = s.status := by cases l <;> simp [State.loadLoc]
@[simp] theorem State.loadLoc_mem (w : Width) (l : Loc) :
    ((s.loadLoc w l).2).mem = s.mem := by cases l <;> simp [State.loadLoc]
@[simp] theorem State.loadLoc_params (w : Width) (l : Loc) :
    ((s.loadLoc w l).2).params = s.params := by cases l <;> simp [State.loadLoc]
@[simp] theorem State.loadLoc_pending (w : Width) (l : Loc) :
    ((s.loadLoc w l).2).pending = s.pending := by cases l <;> simp [State.loadLoc]
@[simp] theorem State.loadLoc_busLog (w : Width) (l : Loc) :
    ((s.loadLoc w l).2).busLog = s.readCalls w l ++ s.busLog := by cases l <;> simp [State.loadLoc, State.readCalls]

@[simp] theorem State.loadAddress_gpr (w : Width) (h : Head) (d : Dest) :
    ((s.loadAddress w h d).2).gpr = s.gpr := by simp [State.loadAddress]
@[simp] theorem State.loadAddress_seg (w : Width) (h : Head) (d : Dest) :
    ((s.loadAddress w h d).2).seg = s.seg := by simp [State.loadAddress]
@[simp] theorem State.loadAddress_eip (w : Width) (h : Head) (d : Dest) :
    ((s.loadAddress w h d).2).eip = s.eip := by simp [State.loadAddress]
@[simp] theorem State.loadAddress_flags (w : Width) (h : Head) (d : Dest) :
    ((s.loadAddress w h d).2).flags = s.flags := by simp [State.loadAddress]
@[simp] theorem State.loadAddress_flagsOther (w : Width) (h : Head) (d : Dest) :
    ((s.loadAddress w h d).2).flagsOther = s.flagsOther := by simp [State.loadAddress]
@[simp] theorem State.loadAddress_status (w : Width) (h : Head) (d : Dest) :
    ((s.loadAddress w h d).2).status = s.status := by simp [State.loadAddress]
@[simp] theorem State.loadAddress_mem (w : Width) (h : Head) (d : Dest) :
    ((s.loadAddress w h d).2).mem = s.mem := by simp [State.loadAddress]
@[simp] theorem State.loadAddress_params (w : Width) (h : Head) (d : Dest) :
    ((s.loadAddress w h d).2).params = s.params := by simp [State.loadAddress]
@[simp] theorem State.loadAddress_pending (w : Width) (h : Head) (d : Dest) :
    ((s.loadAddress w h d).2).pending = s.pending := by simp [State.loadAddress]
@[simp] theorem State.loadAddress_draws (w : Width) (h : Head) (d : Dest) :
    ((s.loadAddress w h d).2).draws = s.draws := by simp [State.loadAddress]
@[simp] theorem State.loadAddress_busLog (w : Width) (h : Head) (d : Dest) :
    ((s.loadAddress w h d).2).busLog = s.busLog := by simp [State.loadAddress]

@[simp] theorem State.loadValue_gpr (w : Width) (h : Head) (o : Operand) :
    ((s.loadValue w h o).2).gpr = s.gpr := by cases o <;> simp [State.loadValue]
@[simp] theorem State.loadValue_seg (w : Width) (h : Head) (o : Operand) :
    ((s.loadValue w h o).2).seg = s.seg := by cases o <;> simp [State.loadValue]
@[simp] theorem State.loadValue_eip (w : Width) (h : Head) (o : Operand) :
    ((s.loadValue w h o).2).eip = s.eip := by cases o <;> simp [State.loadValue]
@[simp] theorem State.loadValue_flags (w : Width) (h : Head) (o : Operand) :
    ((s.loadValue w h o).2).flags = s.flags := by cases o <;> simp [State.loadValue]
@[simp] theorem State.loadValue_flagsOther (w : Width) (h : Head) (o : Operand) :
    ((s.loadValue w h o).2).flagsOther = s.flagsOther := by cases o <;> simp [State.loadValue]
@[simp] theorem State.loadValue_status (w : Width) (h : Head) (o : Operand) :
    ((s.loadValue w h o).2).status = s.status := by cases o <;> simp [State.loadValue]
@[simp] theorem State.loadValue_mem (w : Width) (h : Head) (o : Operand) :
    ((s.loadValue w h o).2).mem = s.mem := by cases o <;> simp [State.loadValue]
@[simp] theorem State.loadValue_params (w : Width) (h : Head) (o : Operand) :
    ((s.loadValue w h o).2).params = s.params := by cases o <;> simp [State.loadValue]
@[simp] theorem State.loadValue_pending (w : Width) (h : Head) (o : Operand) :
    ((s.loadValue w h o).2).pending = s.pending := by cases o <;> simp [State.loadValue]

@[simp] theorem State.loadImplicit_gpr (w : Width) (h : Head) (e : EOperand) (ds rs : List (Width × Reg)) :
    ((s.loadImplicit w h e ds rs).2).gpr = s.gpr := by simp [State.loadImplicit]
@[simp] theorem State.loadImplicit_seg (w : Width) (h : Head) (e : EOperand) (ds rs : List (Width × Reg)) :
    ((s.loadImplicit w h e ds rs).2).seg = s.seg := by simp [State.loadImplicit]
@[simp] theorem State.loadImplicit_eip (w : Width) (h : Head) (e : EOperand) (ds rs : List (Width × Reg)) :
    ((s.loadImplicit w h e ds rs).2).eip = s.eip := by simp [State.loadImplicit]
@[simp] theorem State.loadImplicit_flags (w : Width) (h : Head) (e : EOperand) (ds rs : List (Width × Reg)) :
    ((s.loadImplicit w h e ds rs).2).flags = s.flags := by simp [State.loadImplicit]
@[simp] theorem State.loadImplicit_flagsOther (w : Width) (h : Head) (e : EOperand) (ds rs : List (Width × Reg)) :
    ((s.loadImplicit w h e ds rs).2).flagsOther = s.flagsOther := by simp [State.loadImplicit]
@[simp] theorem State.loadImplicit_status (w : Width) (h : Head) (e : EOperand) (ds rs : List (Width × Reg)) :
    ((s.loadImplicit w h e ds rs).2).status = s.status := by simp [State.loadImplicit]
@[simp] theorem State.loadImplicit_mem (w : Width) (h : Head) (e : EOperand) (ds rs : List (Width × Reg)) :
    ((s.loadImplicit w h e ds rs).2).mem = s.mem := by simp [State.loadImplicit]
@[simp] theorem State.loadImplicit_params (w : Width) (h : Head) (e : EOperand) (ds rs : List (Width × Reg)) :
    ((s.loadImplicit w h e ds rs).2).params = s.params := by simp [State.loadImplicit]
@[simp] theorem State.loadImplicit_pending (w : Width) (h : Head) (e : EOperand) (ds rs : List (Width × Reg)) :
    ((s.loadImplicit w h e ds rs).2).pending = s.pending := by simp [State.loadImplicit]

/-- What the cache holds after requests depends on the cache alone. -/
theorem State.requestAll_cache_congr {s t : State} (h : t.accessorCache = s.accessorCache) (xs : List Shape) :
    (t.requestAll xs).accessorCache = (s.requestAll xs).accessorCache := by
  induction xs generalizing s t with
  | nil => exact h
  | cons x xs ih =>
    refine ih (s := s.getOrCreate x) (t := t.getOrCreate x) ?_
    unfold State.getOrCreate
    rw [h]
    split
    · exact h
    · rfl

theorem State.resume_cache (x : Resumption) : (s.resume x).accessorCache = (s.requestAll x.shapes).accessorCache := by
  unfold State.resume
  exact State.requestAll_cache_congr (by rfl) x.shapes

@[simp] theorem State.resume_gpr (x : Resumption) : (s.resume x).gpr = x.gpr := by simp [State.resume]
@[simp] theorem State.resume_seg (x : Resumption) : (s.resume x).seg = x.seg := by simp [State.resume]
@[simp] theorem State.resume_eip (x : Resumption) : (s.resume x).eip = s.ipwrap x.eip := by simp [State.resume]
@[simp] theorem State.resume_flags (x : Resumption) :
    (s.resume x).flags = if x.flags.valid then x.flags else s.flags := by simp [State.resume]
@[simp] theorem State.resume_flagsOther (x : Resumption) :
    (s.resume x).flagsOther = x.flagsOther := by simp [State.resume]
@[simp] theorem State.resume_accessorCache (x : Resumption) :
    (s.resume x).accessorCache = (s.requestAll x.shapes).accessorCache := State.resume_cache s x
@[simp] theorem State.resume_status (x : Resumption) : (s.resume x).status = s.status := by simp [State.resume]
@[simp] theorem State.resume_mem (x : Resumption) :
    (s.resume x).mem = if x.mem.wf then x.mem else s.mem := by simp [State.resume]
@[simp] theorem State.resume_params (x : Resumption) : (s.resume x).params = s.params := by simp [State.resume]
@[simp] theorem State.resume_pending (x : Resumption) : (s.resume x).pending = s.pending := by simp [State.resume]
@[simp] theorem State.resume_draws (x : Resumption) : (s.resume x).draws = s.draws + 1 := by simp [State.resume]
@[simp] theorem State.resume_busLog (x : Resumption) : (s.resume x).busLog = s.busLog := by simp [State.resume]

/-- What `deliver` can do: end the run, or go on with the state the surrounding machine hands back. -/
theorem State.deliver_cases (e : Event) :
    s.deliver e = s.stopRun e ∨
      ∃ x, s.params.deliver = .host ∧ Config.hostDeliver s e = some x ∧ s.deliver e = s.resume x := by
  unfold State.deliver
  cases hp : s.params.deliver with
  | stop => exact .inl rfl
  | host =>
    cases hx : Config.hostDeliver s e with
    | none => exact .inl rfl
    | some x => exact .inr ⟨x, rfl, rfl, rfl⟩

@[simp] theorem State.deliver_params (e : Event) :
    (s.deliver e).params = s.params := by obtain h | ⟨x, -, -, h⟩ := s.deliver_cases e <;> simp [h]
@[simp] theorem State.deliver_pending (e : Event) :
    (s.deliver e).pending = s.pending := by obtain h | ⟨x, -, -, h⟩ := s.deliver_cases e <;> simp [h]
@[simp] theorem State.deliver_busLog (e : Event) :
    (s.deliver e).busLog = s.busLog := by obtain h | ⟨x, -, -, h⟩ := s.deliver_cases e <;> simp [h]

@[simp] theorem State.carryIn_gpr (op : BinOp) :
    ((s.carryIn op).2).gpr = s.gpr := by unfold State.carryIn; split <;> rfl
@[simp] theorem State.carryIn_seg (op : BinOp) :
    ((s.carryIn op).2).seg = s.seg := by unfold State.carryIn; split <;> rfl
@[simp] theorem State.carryIn_eip (op : BinOp) :
    ((s.carryIn op).2).eip = s.eip := by unfold State.carryIn; split <;> rfl
@[simp] theorem State.carryIn_flagsOther (op : BinOp) :
    ((s.carryIn op).2).flagsOther = s.flagsOther := by unfold State.carryIn; split <;> rfl
@[simp] theorem State.carryIn_accessorCache (op : BinOp) :
    ((s.carryIn op).2).accessorCache = s.accessorCache := by unfold State.carryIn; split <;> rfl
@[simp] theorem State.carryIn_status (op : BinOp) :
    ((s.carryIn op).2).status = s.status := by unfold State.carryIn; split <;> rfl
@[simp] theorem State.carryIn_mem (op : BinOp) :
    ((s.carryIn op).2).mem = s.mem := by unfold State.carryIn; split <;> rfl
@[simp] theorem State.carryIn_params (op : BinOp) :
    ((s.carryIn op).2).params = s.params := by unfold State.carryIn; split <;> rfl
@[simp] theorem State.carryIn_pending (op : BinOp) :
    ((s.carryIn op).2).pending = s.pending := by unfold State.carryIn; split <;> rfl
@[simp] theorem State.carryIn_draws (op : BinOp) :
    ((s.carryIn op).2).draws = s.draws := by unfold State.carryIn; split <;> rfl
@[simp] theorem State.carryIn_busLog (op : BinOp) :
    ((s.carryIn op).2).busLog = s.busLog := by unfold State.carryIn; split <;> rfl

@[simp] theorem State.shiftCarry_gpr (op : ShiftOp) :
    ((s.shiftCarry op).2).gpr = s.gpr := by unfold State.shiftCarry; split <;> rfl
@[simp] theorem State.shiftCarry_seg (op : ShiftOp) :
    ((s.shiftCarry op).2).seg = s.seg := by unfold State.shiftCarry; split <;> rfl
@[simp] theorem State.shiftCarry_eip (op : ShiftOp) :
    ((s.shiftCarry op).2).eip = s.eip := by unfold State.shiftCarry; split <;> rfl
@[simp] theorem State.shiftCarry_flagsOther (op : ShiftOp) :
    ((s.shiftCarry op).2).flagsOther = s.flagsOther := by unfold State.shiftCarry; split <;> rfl
@[simp] theorem State.shiftCarry_accessorCache (op : ShiftOp) :
    ((s.shiftCarry op).2).accessorCache = s.accessorCache := by unfold State.shiftCarry; split <;> rfl
@[simp] theorem State.shiftCarry_status (op : ShiftOp) :
    ((s.shiftCarry op).2).status = s.status := by unfold State.shiftCarry; split <;> rfl
@[simp] theorem State.shiftCarry_mem (op : ShiftOp) :
    ((s.shiftCarry op).2).mem = s.mem := by unfold State.shiftCarry; split <;> rfl
@[simp] theorem State.shiftCarry_params (op : ShiftOp) :
    ((s.shiftCarry op).2).params = s.params := by unfold State.shiftCarry; split <;> rfl
@[simp] theorem State.shiftCarry_pending (op : ShiftOp) :
    ((s.shiftCarry op).2).pending = s.pending := by unfold State.shiftCarry; split <;> rfl
@[simp] theorem State.shiftCarry_draws (op : ShiftOp) :
    ((s.shiftCarry op).2).draws = s.draws := by unfold State.shiftCarry; split <;> rfl
@[simp] theorem State.shiftCarry_busLog (op : ShiftOp) :
    ((s.shiftCarry op).2).busLog = s.busLog := by unfold State.shiftCarry; split <;> rfl

@[simp] theorem State.writePair_seg (w : Width) (x y : BitVec w.bits) : (s.writePair w x y).seg = s.seg := rfl
@[simp] theorem State.writePair_eip (w : Width) (x y : BitVec w.bits) : (s.writePair w x y).eip = s.eip := rfl
@[simp] theorem State.writePair_flags (w : Width) (x y : BitVec w.bits) : (s.writePair w x y).flags = s.flags := rfl
@[simp] theorem State.writePair_flagsOther (w : Width) (x y : BitVec w.bits) :
    (s.writePair w x y).flagsOther = s.flagsOther := rfl
@[simp] theorem State.writePair_accessorCache (w : Width) (x y : BitVec w.bits) :
    (s.writePair w x y).accessorCache = s.accessorCache := rfl
@[simp] theorem State.writePair_status (w : Width) (x y : BitVec w.bits) :
    (s.writePair w x y).status = s.status := rfl
@[simp] theorem State.writePair_mem (w : Width) (x y : BitVec w.bits) : (s.writePair w x y).mem = s.mem := rfl
@[simp] theorem State.writePair_params (w : Width) (x y : BitVec w.bits) :
    (s.writePair w x y).params = s.params := rfl
@[simp] theorem State.writePair_pending (w : Width) (x y : BitVec w.bits) :
    (s.writePair w x y).pending = s.pending := rfl
@[simp] theorem State.writePair_draws (w : Width) (x y : BitVec w.bits) : (s.writePair w x y).draws = s.draws := rfl
@[simp] theorem State.writePair_busLog (w : Width) (x y : BitVec w.bits) :
    (s.writePair w x y).busLog = s.busLog := rfl

@[simp] theorem State.memRead_fst (w : Width) (lin : Dword) : (s.memRead w lin).1 = s.memValue w lin := rfl

@[simp] theorem State.readFlag_fst (f : Flag) : (s.readFlag f).1 = s.flag f := rfl

@[simp] theorem State.loadAddress_fst (w : Width) (h : Head) (d : Dest) :
    (s.loadAddress w h d).1 = s.destLoc h d := rfl

@[simp] theorem State.loadLoc_fst (w : Width) (l : Loc) : (s.loadLoc w l).1 = s.locValue w l := by
  cases l <;> rfl

end Sys2Proof.Machine
end

