-- ==== Sys2Proof/Laws/Flags.lean ====
section
/-!
SUPPORT. The flag engine: slots, reads, the group update, and the value of every flag after `write flags`.
-/
namespace Sys2Proof.Machine

/-! ### Slots -/

@[simp] theorem FlagEngine.ovr_setOvr (e : FlagEngine) (f g : Flag) (v : Option Bool) :
    (e.setOvr f v).ovr g = if g = f then v else e.ovr g := by
  cases f <;> cases g <;> rfl

@[simp] theorem FlagEngine.tag_setOvr (e : FlagEngine) (f : Flag) (g : FlagGroup) (v : Option Bool) :
    (e.setOvr f v).tag g = e.tag g := by
  cases f <;> cases g <;> rfl

@[simp] theorem FlagEngine.ovr_setTag (e : FlagEngine) (f : Flag) (g : FlagGroup) (t : Option Tag) :
    (e.setTag g t).ovr f = e.ovr f := by
  cases f <;> cases g <;> rfl

@[simp] theorem FlagEngine.tag_setTag (e : FlagEngine) (g g' : FlagGroup) (t : Option Tag) :
    (e.setTag g t).tag g' = if g' = g then t else e.tag g' := by
  cases g <;> cases g' <;> rfl

@[simp] theorem FlagEngine.evalCount_setOvr (e : FlagEngine) (f : Flag) (v : Option Bool) :
    (e.setOvr f v).evalCount = e.evalCount := by
  cases f <;> rfl

@[simp] theorem FlagEngine.evalCount_setTag (e : FlagEngine) (g : FlagGroup) (t : Option Tag) :
    (e.setTag g t).evalCount = e.evalCount := by
  cases g <;> rfl

/-- Two engines with the same slots of a flag give it the same value. -/
theorem FlagEngine.value_congr {e e' : FlagEngine} {f : Flag} (ho : e'.ovr f = e.ovr f)
    (ht : e'.tag (groupOf f) = e.tag (groupOf f)) : e'.value f = e.value f := by
  simp only [FlagEngine.value, FlagEngine.pendingValue, ho, ht]

/-- A flag with a full override has its value. -/
theorem FlagEngine.value_of_ovr {e : FlagEngine} {f : Flag} {b : Bool} (h : e.ovr f = some b) : e.value f = b := by
  simp only [FlagEngine.value, h]

/-! ### Reading -/

theorem FlagEngine.resolve_of_ovr {e : FlagEngine} {f : Flag} {b : Bool} (h : e.ovr f = some b) :
    e.resolve f = e := by
  simp only [FlagEngine.resolve, h]

/-- The slots of every flag after a read (40_flag_engine R430). -/
@[simp] theorem FlagEngine.ovr_resolve (e : FlagEngine) (f g : Flag) :
    (e.resolve f).ovr g = if g = f then some (e.value f) else e.ovr g := by
  cases h : e.ovr f with
  | some b =>
    rw [FlagEngine.resolve_of_ovr h, FlagEngine.value_of_ovr h]
    split
    · subst_vars; exact h
    · rfl
  | none =>
    have hv : e.value f = e.pendingValue f := by simp only [FlagEngine.value, h]
    have hr : ∀ x : FlagEngine, ∀ n, ({ x with evalCount := n } : FlagEngine).ovr g = x.ovr g := by
      intro x n; cases g <;> rfl
    simp only [FlagEngine.resolve, h, hr, FlagEngine.ovr_setOvr, hv]

@[simp] theorem FlagEngine.tag_resolve (e : FlagEngine) (f : Flag) (g : FlagGroup) :
    (e.resolve f).tag g = e.tag g := by
  cases h : e.ovr f with
  | some b => rw [FlagEngine.resolve_of_ovr h]
  | none =>
    have hr : ∀ x : FlagEngine, ∀ n, ({ x with evalCount := n } : FlagEngine).tag g = x.tag g := by
      intro x n; cases g <;> rfl
    simp only [FlagEngine.resolve, h, hr, FlagEngine.tag_setOvr]

/-- A read changes no resolved value (40_flag_engine R450). -/
@[simp] theorem FlagEngine.value_resolve (e : FlagEngine) (f g : Flag) : (e.resolve f).value g = e.value g := by
  by_cases h : g = f
  · subst h
    exact FlagEngine.value_of_ovr (by simp)
  · exact FlagEngine.value_congr (by simp [h]) (by simp)

/-- A read counts an evaluation exactly when the override was empty (40_flag_engine R430). -/
theorem FlagEngine.evalCount_resolve (e : FlagEngine) (f : Flag) :
    (e.resolve f).evalCount = e.evalCount + if (e.ovr f).isSome then 0 else 1 := by
  cases h : e.ovr f with
  | some b => simp [FlagEngine.resolve_of_ovr h]
  | none => simp [FlagEngine.resolve, h]

/-- A flag of the state after a read of any flag. -/
@[simp] theorem State.flag_readFlag (s : State) (f g : Flag) : ((s.readFlag f).2).flag g = s.flag g :=
  FlagEngine.value_resolve s.flags f g

/-- A flag depends on the engine alone. -/
theorem State.flag_congr {s t : State} (h : t.flags = s.flags) (f : Flag) : t.flag f = s.flag f := by
  simp only [State.flag, h]

@[simp] theorem State.flag_readCond (s : State) (c : Cond) (f : Flag) : ((s.readCond c).2).flag f = s.flag f := by
  cases c <;> simp [State.readCond]

/-- The condition read is the condition of the table (45_flag_consumers R910). -/
@[simp] theorem State.readCond_fst (s : State) (c : Cond) : (s.readCond c).1 = s.condition c := by
  cases c <;> simp [State.readCond, State.condition] <;>
    (cases s.flag .sf <;> cases s.flag .of <;> cases s.flag .zf <;> rfl)

@[simp] theorem State.flag_carryIn (s : State) (op : BinOp) (f : Flag) :
    ((s.carryIn op).2).flag f = s.flag f := by
  unfold State.carryIn
  split <;> simp

@[simp] theorem State.carryIn_fst (s : State) (op : BinOp) :
    (s.carryIn op).1 = (op.readsCarry && s.flag .cf) := by
  cases op <;> rfl

@[simp] theorem State.flag_shiftCarry (s : State) (op : ShiftOp) (f : Flag) :
    ((s.shiftCarry op).2).flag f = s.flag f := by
  unfold State.shiftCarry
  split <;> simp

@[simp] theorem State.shiftCarry_fst (s : State) (op : ShiftOp) :
    (s.shiftCarry op).1 = (op.readsCarry && s.flag .cf) := by
  cases op <;> rfl

/-! ### Writing: materialisation -/

theorem materialise_fold_value (a : FlagActions) (L : List Flag) (e : FlagEngine) (f : Flag) :
    (L.foldl (materialise a) e).value f = e.value f := by
  induction L generalizing e with
  | nil => rfl
  | cons g L ih =>
    rw [List.foldl_cons, ih]
    unfold materialise
    split <;> simp

theorem materialise_fold_tag (a : FlagActions) (L : List Flag) (e : FlagEngine) (g : FlagGroup) :
    (L.foldl (materialise a) e).tag g = e.tag g := by
  induction L generalizing e with
  | nil => rfl
  | cons f L ih =>
    rw [List.foldl_cons, ih]
    unfold materialise
    split <;> simp

/-- A kept flag of the list is materialised, every other slot stays (40_flag_engine R440). -/
theorem materialise_fold_ovr (a : FlagActions) (L : List Flag) (e : FlagEngine) (f : Flag) :
    (L.foldl (materialise a) e).ovr f =
      if f ∈ L ∧ (a.get f).isKeep = true then some (e.value f) else e.ovr f := by
  induction L generalizing e with
  | nil => simp
  | cons g L ih =>
    rw [List.foldl_cons, ih]
    unfold materialise
    by_cases hk : (a.get g).isKeep = true
    · simp only [hk, if_true, FlagEngine.value_resolve, FlagEngine.ovr_resolve]
      by_cases hf : f = g
      · subst hf; simp [hk]
      · simp [hf]
    · simp only [hk, Bool.false_eq_true, if_false]
      by_cases hf : f = g
      · subst hf; simp [hk]
      · simp [hf]

/-! ### Writing: actions -/

/-- The slot of a flag after its action; for `Undef` the draw is not named here. -/
def ActedSlot (x : FlagAction) (old new : Option Bool) : Prop :=
  match x with
  | .lazy _ => new = none
  | .explicit b => new = some b
  | .undef => ∃ k, new = some (Config.drawFlag k)
  | .keep => new = old

theorem applyAction_fold_tag (a : FlagActions) (L : List Flag) (p : FlagEngine × Nat) (g : FlagGroup) :
    (L.foldl (applyAction a) p).1.tag g = p.1.tag g := by
  induction L generalizing p with
  | nil => rfl
  | cons f L ih =>
    rw [List.foldl_cons, ih]
    unfold applyAction
    cases a.get f <;> simp

theorem applyAction_fold_evalCount (a : FlagActions) (L : List Flag) (p : FlagEngine × Nat) :
    (L.foldl (applyAction a) p).1.evalCount = p.1.evalCount := by
  induction L generalizing p with
  | nil => rfl
  | cons f L ih =>
    rw [List.foldl_cons, ih]
    unfold applyAction
    cases a.get f <;> simp

theorem applyAction_fold_other (a : FlagActions) (L : List Flag) (p : FlagEngine × Nat) (f : Flag) (h : f ∉ L) :
    (L.foldl (applyAction a) p).1.ovr f = p.1.ovr f := by
  induction L generalizing p with
  | nil => rfl
  | cons g L ih =>
    rw [List.mem_cons, not_or] at h
    rw [List.foldl_cons, ih _ h.2]
    unfold applyAction
    cases a.get g <;> simp [h.1]

theorem applyAction_fold_self (a : FlagActions) (L : List Flag) (p : FlagEngine × Nat) (f : Flag) (h : f ∈ L)
    (hd : L.Nodup) : ActedSlot (a.get f) (p.1.ovr f) ((L.foldl (applyAction a) p).1.ovr f) := by
  induction L generalizing p with
  | nil => simp at h
  | cons g L ih =>
    rw [List.nodup_cons] at hd
    rw [List.foldl_cons]
    by_cases hf : f = g
    · subst hf
      rw [applyAction_fold_other a L _ f hd.1]
      unfold applyAction ActedSlot
      cases a.get f <;> simp
    · rw [List.mem_cons] at h
      have := ih (applyAction a p g) (h.resolve_left hf) hd.2
      have ho : (applyAction a p g).1.ovr f = p.1.ovr f := by
        unfold applyAction
        cases a.get g <;> simp [hf]
      rwa [ho] at this

/-! ### Writing: one group -/

theorem flagsOf_nodup (g : FlagGroup) : (flagsOf g).Nodup := by cases g <;> decide

theorem mem_flagsOf (f : Flag) (g : FlagGroup) : f ∈ flagsOf g ↔ groupOf f = g := by
  cases f <;> cases g <;> decide

/-- A group update leaves the slots of the other groups alone. -/
theorem writeGroup_other (a : FlagActions) (p : FlagEngine × Nat) (g : FlagGroup) (f : Flag) (h : groupOf f ≠ g) :
    (writeGroup a p g).1.ovr f = p.1.ovr f ∧ (writeGroup a p g).1.tag (groupOf f) = p.1.tag (groupOf f) := by
  have hn : f ∉ flagsOf g := fun hf => h ((mem_flagsOf f g).mp hf)
  unfold writeGroup
  split
  · exact ⟨rfl, rfl⟩
  · rw [applyAction_fold_other a _ _ f hn, applyAction_fold_tag]
    simp [materialise_fold_ovr, materialise_fold_tag, hn, h]

/-- The value of a flag after its own group's update. -/
theorem writeGroup_self (a : FlagActions) (p : FlagEngine × Nat) (f : Flag) :
    match a.get f with
    | .lazy _ =>
      (writeGroup a p (groupOf f)).1.ovr f = none ∧
        (writeGroup a p (groupOf f)).1.tag (groupOf f) = groupTag a (groupOf f)
    | .explicit b => (writeGroup a p (groupOf f)).1.ovr f = some b
    | .undef => ∃ k, (writeGroup a p (groupOf f)).1.ovr f = some (Config.drawFlag k)
    | .keep => (writeGroup a p (groupOf f)).1.value f = p.1.value f := by
  have hm : f ∈ flagsOf (groupOf f) := (mem_flagsOf f _).mpr rfl
  unfold writeGroup
  by_cases hk : (flagsOf (groupOf f)).all (fun g => (a.get g).isKeep) = true
  · have := List.all_eq_true.mp hk f hm
    simp only [hk, if_true]
    cases hf : a.get f <;> simp_all [FlagAction.isKeep]
  · simp only [hk, Bool.false_eq_true, if_false]
    have key := applyAction_fold_self a (flagsOf (groupOf f))
      (((flagsOf (groupOf f)).foldl (materialise a) p.1).setTag (groupOf f) (groupTag a (groupOf f)), p.2) f hm
      (flagsOf_nodup _)
    have ht := applyAction_fold_tag a (flagsOf (groupOf f))
      (((flagsOf (groupOf f)).foldl (materialise a) p.1).setTag (groupOf f) (groupTag a (groupOf f)), p.2) (groupOf f)
    cases hf : a.get f with
    | lazy t =>
      rw [hf] at key
      exact ⟨key, by rw [ht]; simp⟩
    | explicit b =>
      rw [hf] at key
      exact key
    | undef =>
      rw [hf] at key
      exact key
    | keep =>
      rw [hf] at key
      simp only [ActedSlot, FlagEngine.ovr_setTag, materialise_fold_ovr] at key
      rw [if_pos ⟨hm, by rw [hf]; rfl⟩] at key
      exact FlagEngine.value_of_ovr key

/-! ### Writing: all groups -/

/-- The groups before and after that of a flag are written without touching its slots: the flag's slots after
`write flags` are those after its own group's update of some engine with the same slots of the flag. -/
theorem write_slots (a : FlagActions) (p : FlagEngine × Nat) (f : Flag) :
    ∃ q : FlagEngine × Nat, q.1.ovr f = p.1.ovr f ∧ q.1.tag (groupOf f) = p.1.tag (groupOf f) ∧
      (FlagEngine.write a p).1.ovr f = (writeGroup a q (groupOf f)).1.ovr f ∧
      (FlagEngine.write a p).1.tag (groupOf f) = (writeGroup a q (groupOf f)).1.tag (groupOf f) := by
  unfold FlagEngine.write
  simp only [List.foldl_cons, List.foldl_nil]
  cases hg : groupOf f with
  | ca =>
    refine ⟨p, rfl, rfl, ?_⟩
    have h1 := writeGroup_other a (writeGroup a p .ca) .o f (by simp [hg])
    have h2 := writeGroup_other a (writeGroup a (writeGroup a p .ca) .o) .szp f (by simp [hg])
    rw [hg] at h1 h2
    exact ⟨by rw [h2.1, h1.1], by rw [h2.2, h1.2]⟩
  | o =>
    have h1 := writeGroup_other a p .ca f (by simp [hg])
    have h2 := writeGroup_other a (writeGroup a (writeGroup a p .ca) .o) .szp f (by simp [hg])
    rw [hg] at h1 h2
    exact ⟨writeGroup a p .ca, h1.1, h1.2, h2.1, h2.2⟩
  | szp =>
    have h1 := writeGroup_other a p .ca f (by simp [hg])
    have h2 := writeGroup_other a (writeGroup a p .ca) .o f (by simp [hg])
    rw [hg] at h1 h2
    exact ⟨writeGroup a (writeGroup a p .ca) .o, by rw [h2.1, h1.1], by rw [h2.2, h1.2], rfl, rfl⟩

/-- What `write flags` makes of a flag (40_flag_engine R440, R450). -/
theorem State.writeFlags_flag (a : FlagActions) (s : State) (f : Flag) :
    match a.get f with
    | .lazy _ =>
      (s.writeFlags a).flag f =
        match (groupTag a (groupOf f)).bind (evalFlag f) with
        | some v => v
        | none => Config.unrecordedFlag
    | .explicit b => (s.writeFlags a).flag f = b
    | .undef => ∃ k, (s.writeFlags a).flag f = Config.drawFlag k
    | .keep => (s.writeFlags a).flag f = s.flag f := by
  obtain ⟨q, hq1, hq2, h1, h2⟩ := write_slots a (s.flags, s.draws) f
  have key := writeGroup_self a q f
  have hv : (s.writeFlags a).flag f = (writeGroup a q (groupOf f)).1.value f := FlagEngine.value_congr h1 h2
  cases hf : a.get f with
  | lazy t =>
    rw [hf] at key
    show (s.writeFlags a).flag f = _
    rw [hv]
    cases ho : (groupTag a (groupOf f)).bind (evalFlag f) <;>
      simp only [FlagEngine.value, key.1, FlagEngine.pendingValue, key.2, ho]
  | explicit b =>
    rw [hf] at key
    show (s.writeFlags a).flag f = b
    rw [hv]
    exact FlagEngine.value_of_ovr key
  | undef =>
    rw [hf] at key
    obtain ⟨k, hk⟩ := key
    exact ⟨k, by rw [hv]; exact FlagEngine.value_of_ovr hk⟩
  | keep =>
    rw [hf] at key
    show (s.writeFlags a).flag f = s.flag f
    rw [hv, key]
    exact FlagEngine.value_congr hq1 hq2

/-- A flag that an instruction does not name keeps its value. -/
theorem State.writeFlags_keep {a : FlagActions} {f : Flag} (s : State) (h : a.get f = .keep) :
    (s.writeFlags a).flag f = s.flag f := by
  have := State.writeFlags_flag a s f
  rwa [h] at this

/-- A flag written explicitly. -/
theorem State.writeFlags_explicit {a : FlagActions} {f : Flag} {b : Bool} (s : State) (h : a.get f = .explicit b) :
    (s.writeFlags a).flag f = b := by
  have := State.writeFlags_flag a s f
  rwa [h] at this

/-- A flag pending on a tag that defines it. -/
theorem State.writeFlags_lazy {a : FlagActions} {f : Flag} {t : Tag} {v : Bool} (s : State) (h : a.get f = .lazy t)
    (hg : groupTag a (groupOf f) = some t) (hv : evalFlag f t = some v) : (s.writeFlags a).flag f = v := by
  have := State.writeFlags_flag a s f
  rw [h] at this
  simpa [hg, hv] using this

/-- Every `Lazy` action names the tag of its group (40_flag_engine R440). -/
def FlagActions.oneTag (a : FlagActions) : Prop := ∀ f t, a.get f = .lazy t → groupTag a (groupOf f) = some t

/-- What `write flags` leaves in the slots (40_flag_engine R440). -/
theorem State.writeFlags_wrote {a : FlagActions} (ha : a.oneTag) (s : State) : Wrote a s (s.writeFlags a) := by
  intro f
  have hw := State.writeFlags_flag a s f
  obtain ⟨q, hq1, hq2, h1, h2⟩ := write_slots a (s.flags, s.draws) f
  have key := writeGroup_self a q f
  have h1 : (s.writeFlags a).flags.ovr f = (writeGroup a q (groupOf f)).1.ovr f := h1
  have h2 : (s.writeFlags a).flags.tag (groupOf f) = (writeGroup a q (groupOf f)).1.tag (groupOf f) := h2
  cases hx : a.get f with
  | lazy t =>
    rw [hx] at key
    exact ⟨h1.trans key.1, h2.trans (key.2.trans (ha f t hx))⟩
  | explicit b =>
    rw [hx] at key
    exact h1.trans key
  | undef =>
    rw [hx] at key
    obtain ⟨k, hk⟩ := key
    exact ⟨_, h1.trans hk⟩
  | keep =>
    rw [hx] at hw
    exact hw

/-- `Wrote` reads the resolved flags of the state before and the slots of the state after. -/
theorem Wrote.congr {a : FlagActions} {s s' t t' : State} (h : Wrote a s t) (hs : ∀ f, s'.flag f = s.flag f)
    (ht : t'.flags = t.flags) : Wrote a s' t' := by
  intro f
  have := h f
  cases hx : a.get f <;> simp_all [State.flag]

/-- A pending flag has the value its tag gives it (40_flag_engine R430). -/
theorem Wrote.lazy_flag {a : FlagActions} {s t : State} (h : Wrote a s t) {f : Flag} {x : Tag} {v : Bool}
    (hx : a.get f = .lazy x) (hv : evalFlag f x = some v) : t.flag f = v := by
  have := h f
  rw [hx] at this
  simp only [State.flag, FlagEngine.value, this.1, FlagEngine.pendingValue, this.2, Option.bind_some, hv]

theorem Wrote.explicit_flag {a : FlagActions} {s t : State} (h : Wrote a s t) {f : Flag} {b : Bool}
    (hx : a.get f = .explicit b) : t.flag f = b := by
  have := h f
  rw [hx] at this
  exact FlagEngine.value_of_ovr this

theorem Wrote.keep_flag {a : FlagActions} {s t : State} (h : Wrote a s t) {f : Flag} (hx : a.get f = .keep) :
    t.flag f = s.flag f := by
  have := h f
  rwa [hx] at this

/-! ### The engine invariant -/

/-- The invariant flag by flag (40_flag_engine R422). -/
theorem FlagEngine.valid_iff (e : FlagEngine) :
    e.valid = true ↔ ∀ f, e.ovr f = none → ∃ t, e.tag (groupOf f) = some t ∧ definesFlag t f = true := by
  have hall : ∀ f : Flag, f ∈ allFlags := by intro f; cases f <;> decide
  unfold FlagEngine.valid
  rw [List.all_eq_true]
  constructor
  · intro h f ho
    have := h f (hall f)
    rw [ho] at this
    simp only [Option.isSome_none, Bool.false_or] at this
    cases ht : e.tag (groupOf f) with
    | none => rw [ht] at this; simp at this
    | some t => exact ⟨t, rfl, by rw [ht] at this; simpa using this⟩
  · intro h f _
    cases ho : e.ovr f with
    | some b => rfl
    | none =>
      obtain ⟨t, ht, hd⟩ := h f ho
      simp [ht, hd]

/-- A read keeps the invariant. -/
theorem FlagEngine.valid_resolve {e : FlagEngine} (f : Flag) (h : e.valid = true) : (e.resolve f).valid = true := by
  rw [FlagEngine.valid_iff] at *
  intro g hg
  rw [FlagEngine.ovr_resolve] at hg
  split at hg
  · cases hg
  · rw [FlagEngine.tag_resolve]
    exact h g hg

/-- Every `Lazy` action names the tag of its group, and that tag defines the flag (40_flag_engine R440). -/
def FlagActions.sound (a : FlagActions) : Prop :=
  ∀ f t, a.get f = .lazy t → groupTag a (groupOf f) = some t ∧ definesFlag t f = true

/-- `write flags` keeps the invariant where the actions are sound. -/
theorem FlagEngine.valid_write {a : FlagActions} (ha : a.sound) (p : FlagEngine × Nat) (h : p.1.valid = true) :
    (FlagEngine.write a p).1.valid = true := by
  rw [FlagEngine.valid_iff] at *
  intro f hf
  obtain ⟨q, hq1, hq2, h1, h2⟩ := write_slots a p f
  rw [h1] at hf
  rw [h2]
  have key := writeGroup_self a q f
  have hm : f ∈ flagsOf (groupOf f) := (mem_flagsOf f _).mpr rfl
  cases hx : a.get f with
  | lazy t =>
    rw [hx] at key
    rw [key.2]
    exact ⟨t, ha f t hx⟩
  | explicit b =>
    rw [hx] at key
    have key : (writeGroup a q (groupOf f)).1.ovr f = some b := key
    rw [hf] at key
    cases key
  | undef =>
    rw [hx] at key
    obtain ⟨k, hk⟩ := key
    rw [hf] at hk
    cases hk
  | keep =>
    by_cases hk : (flagsOf (groupOf f)).all (fun g => (a.get g).isKeep) = true
    · have hw : writeGroup a q (groupOf f) = q := by
        unfold writeGroup
        simp [hk]
      rw [hw] at hf ⊢
      rw [hq2]
      exact h f (by rw [← hq1]; exact hf)
    · exfalso
      unfold writeGroup at hf
      simp only [hk, Bool.false_eq_true, if_false] at hf
      have key := applyAction_fold_self a (flagsOf (groupOf f))
        (((flagsOf (groupOf f)).foldl (materialise a) q.1).setTag (groupOf f) (groupTag a (groupOf f)), q.2) f hm
        (flagsOf_nodup _)
      rw [hx] at key
      simp only [ActedSlot, FlagEngine.ovr_setTag, materialise_fold_ovr] at key
      rw [if_pos ⟨hm, by rw [hx]; rfl⟩] at key
      rw [key] at hf
      cases hf

end Sys2Proof.Machine
end

