-- ==== Sys2Proof/Laws/Memory.lean ====
section
/-!
SUPPORT. Memory: what a read gives after a write, that every write keeps the canonical form, and what a store leaves
behind.
-/
namespace Sys2Proof.Machine

/-! ### One byte -/

theorem Memory.read_erase (m : Memory) (a b : Nat) :
    (Memory.erase m a).read b = if b = a then Memory.blankByte else m.read b := by
  induction m with
  | nil => simp [Memory.erase, Memory.read]
  | cons c m ih =>
    obtain ⟨k, w⟩ := c
    by_cases hk : k = a <;> by_cases hb : k = b <;> simp_all [Memory.erase, Memory.read]

theorem Memory.read_insert (m : Memory) (a b : Nat) (v : Byte) :
    (Memory.insert m a v).read b = if b = a then v else m.read b := by
  induction m with
  | nil => simp [Memory.insert, Memory.read, eq_comm]
  | cons c m ih =>
    obtain ⟨k, w⟩ := c
    simp only [Memory.insert]
    split
    · simp [Memory.read, eq_comm]
    · split
      · subst_vars
        simp only [Memory.read]
        grind
      · simp only [Memory.read, ih]
        grind

/-- A read after a write: the byte written at its address, every other byte as before. -/
theorem Memory.read_write (m : Memory) (a b : Nat) (v : Byte) :
    (Memory.write m a v).read b = if b = a then v else m.read b := by
  unfold Memory.write
  split
  · rename_i h
    rw [Memory.read_erase, h]
  · exact Memory.read_insert m a b v

/-! ### The canonical form -/

theorem Memory.wfFrom_mono {m : Memory} {lo lo' : Nat} (h : lo' ≤ lo) (hm : Memory.wfFrom lo m = true) :
    Memory.wfFrom lo' m = true := by
  cases m with
  | nil => rfl
  | cons c m =>
    simp only [Memory.wfFrom, Bool.and_eq_true, decide_eq_true_eq] at hm ⊢
    exact ⟨⟨⟨by omega, hm.1.1.2⟩, hm.1.2⟩, hm.2⟩

theorem Memory.wfFrom_erase {m : Memory} {lo : Nat} (a : Nat) (hm : Memory.wfFrom lo m = true) :
    Memory.wfFrom lo (Memory.erase m a) = true := by
  induction m generalizing lo with
  | nil => rfl
  | cons c m ih =>
    obtain ⟨k, w⟩ := c
    simp only [Memory.wfFrom, Bool.and_eq_true, decide_eq_true_eq] at hm
    simp only [Memory.erase]
    split
    · exact Memory.wfFrom_mono (by omega) (ih hm.2)
    · simp only [Memory.wfFrom, Bool.and_eq_true, decide_eq_true_eq]
      exact ⟨hm.1, ih hm.2⟩

theorem Memory.wfFrom_insert {m : Memory} {lo a : Nat} {v : Byte} (hv : v ≠ Memory.blankByte) (hl : lo ≤ a)
    (ha : a < 2 ^ 32) (hm : Memory.wfFrom lo m = true) : Memory.wfFrom lo (Memory.insert m a v) = true := by
  induction m generalizing lo with
  | nil =>
    simp only [Memory.insert, Memory.wfFrom, Bool.and_eq_true, decide_eq_true_eq]
    exact ⟨⟨⟨hl, ha⟩, by simpa using hv⟩, trivial⟩
  | cons c m ih =>
    obtain ⟨k, w⟩ := c
    simp only [Memory.wfFrom, Bool.and_eq_true, decide_eq_true_eq] at hm
    simp only [Memory.insert]
    split
    · simp only [Memory.wfFrom, Bool.and_eq_true, decide_eq_true_eq]
      exact ⟨⟨⟨hl, ha⟩, by simpa using hv⟩, ⟨⟨by omega, hm.1.1.2⟩, hm.1.2⟩, hm.2⟩
    · split
      · subst_vars
        simp only [Memory.wfFrom, Bool.and_eq_true, decide_eq_true_eq]
        exact ⟨⟨⟨hl, ha⟩, by simpa using hv⟩, hm.2⟩
      · simp only [Memory.wfFrom, Bool.and_eq_true, decide_eq_true_eq]
        exact ⟨hm.1, ih (by omega) hm.2⟩

/-- A write keeps the canonical form. -/
theorem Memory.wf_write {m : Memory} {a : Nat} (v : Byte) (ha : a < 2 ^ 32) (hm : m.wf = true) :
    (Memory.write m a v).wf = true := by
  unfold Memory.write
  split
  · exact Memory.wfFrom_erase a hm
  · rename_i hv
    exact Memory.wfFrom_insert hv (Nat.zero_le a) ha hm

/-- `State.reset` holds the canonical form. -/
theorem State.reset_mem_wf : State.reset.mem.wf = true := rfl

/-! ### A store -/

@[simp] theorem State.byteAddr_setMem (s : State) (m : Memory) (lin : Dword) (j : Nat) :
    (s.setMem m).byteAddr lin j = s.byteAddr lin j := rfl

/-- `byteAddr` reads only the launch parameters. -/
theorem State.byteAddr_congr {s t : State} (h : t.params = s.params) (lin : Dword) (j : Nat) :
    t.byteAddr lin j = s.byteAddr lin j := by
  simp [State.byteAddr, h]

/-- `isMmio` reads only the launch parameters. -/
theorem State.isMmio_congr {s t : State} (h : t.params = s.params) (a : Dword) : t.isMmio a = s.isMmio a := by
  simp [State.isMmio, h]

/-- `byteAt` reads only memory. -/
theorem State.byteAt_congr {s t : State} (h : t.mem = s.mem) (a : Dword) : t.byteAt a = s.byteAt a := by
  simp [State.byteAt, h]

/-- One byte stored: that byte, unless it is memory-mapped, and no other. -/
theorem State.byteAt_storeByte {n : Nat} (lin : Dword) (v : BitVec n) (s : State) (j : Nat) (a : Dword) :
    (State.storeByte lin v s j).byteAt a =
      if s.byteAddr lin j = a ∧ s.isMmio a = false then valueByte v j else s.byteAt a := by
  unfold State.storeByte
  by_cases hm : s.isMmio (s.byteAddr lin j) = true
  · simp only [hm, if_true]
    split
    · rename_i h
      rw [h.1, h.2] at hm
      simp at hm
    · rfl
  · simp only [hm, Bool.false_eq_true, if_false]
    simp only [State.byteAt, State.setMem_mem, Memory.read_write]
    by_cases ha : s.byteAddr lin j = a
    · subst ha
      simp [hm]
    · have : ¬ a.toNat = (s.byteAddr lin j).toNat := fun h => ha (BitVec.eq_of_toNat_eq h.symm)
      simp [ha, this]

/-- What a list of byte stores leaves: a field that no byte store changes. -/
theorem State.foldl_storeByte {α : Type} (p : State → α) {n : Nat} (lin : Dword) (v : BitVec n)
    (hp : ∀ s j, p (State.storeByte lin v s j) = p s) (js : List Nat) (s : State) :
    p (js.foldl (State.storeByte lin v) s) = p s := by
  induction js generalizing s with
  | nil => rfl
  | cons j js ih => rw [List.foldl_cons, ih, hp]

/-- The byte at an address after a list of byte stores: the last store to it. -/
theorem State.byteAt_foldl_storeByte {n : Nat} (lin : Dword) (v : BitVec n) (js : List Nat) (s : State) (a : Dword) :
    (js.foldl (State.storeByte lin v) s).byteAt a =
      match js.reverse.find? fun j => s.byteAddr lin j == a with
      | some j => if s.isMmio a then s.byteAt a else valueByte v j
      | none => s.byteAt a := by
  induction js generalizing s with
  | nil => rfl
  | cons j js ih =>
    rw [List.foldl_cons, ih]
    simp only [State.byteAddr_congr (State.storeByte_params s lin v j),
      State.isMmio_congr (State.storeByte_params s lin v j), State.byteAt_storeByte, List.reverse_cons,
      List.find?_append]
    cases hf : List.find? (fun j => s.byteAddr lin j == a) js.reverse with
    | some i => by_cases hm : s.isMmio a <;> simp [hm]
    | none =>
      by_cases hj : s.byteAddr lin j = a <;> by_cases hm : s.isMmio a <;> simp [hj, hm]

section
variable (s : State) (w : Width) (lin : Dword) (v : BitVec w.bits)

@[simp] theorem State.memWrite_gpr : (s.memWrite w lin v).gpr = s.gpr := by
  simp [State.memWrite, State.foldl_storeByte State.gpr]
@[simp] theorem State.memWrite_seg : (s.memWrite w lin v).seg = s.seg := by
  simp [State.memWrite, State.foldl_storeByte State.seg]
@[simp] theorem State.memWrite_eip : (s.memWrite w lin v).eip = s.eip := by
  simp [State.memWrite, State.foldl_storeByte State.eip]
@[simp] theorem State.memWrite_flags : (s.memWrite w lin v).flags = s.flags := by
  simp [State.memWrite, State.foldl_storeByte State.flags]
@[simp] theorem State.memWrite_flagsOther : (s.memWrite w lin v).flagsOther = s.flagsOther := by
  simp [State.memWrite, State.foldl_storeByte State.flagsOther]
@[simp] theorem State.memWrite_accessorCache : (s.memWrite w lin v).accessorCache = s.accessorCache := by
  simp [State.memWrite, State.foldl_storeByte State.accessorCache]
@[simp] theorem State.memWrite_status : (s.memWrite w lin v).status = s.status := by
  simp [State.memWrite, State.foldl_storeByte State.status]
@[simp] theorem State.memWrite_params : (s.memWrite w lin v).params = s.params := by
  simp [State.memWrite, State.foldl_storeByte State.params]
@[simp] theorem State.memWrite_pending : (s.memWrite w lin v).pending = s.pending := by
  simp [State.memWrite, State.foldl_storeByte State.pending]
@[simp] theorem State.memWrite_draws : (s.memWrite w lin v).draws = s.draws := by
  simp [State.memWrite, State.foldl_storeByte State.draws]
@[simp] theorem State.memWrite_busLog :
    (s.memWrite w lin v).busLog = .memWrite lin w (v.setWidth 32) :: s.busLog := by
  simp [State.memWrite, State.foldl_storeByte State.busLog]

/-- What a memory write leaves behind, byte by byte: a byte of the access that is RAM takes its byte of the value. -/
theorem State.byteAt_memWrite (a : Dword) :
    (s.memWrite w lin v).byteAt a =
      match s.byteIndex w lin a with
      | some j => if s.isMmio a then s.byteAt a else valueByte v j
      | none => s.byteAt a := by
  have h : ∀ (x : State) (c : BusCall), (x.record c).byteAt a = x.byteAt a := fun _ _ => rfl
  rw [State.memWrite, h, State.byteAt_foldl_storeByte]
  rfl

/-- A memory write keeps the canonical form. -/
theorem State.memWrite_wf (h : s.mem.wf = true) : (s.memWrite w lin v).mem.wf = true := by
  have key : ∀ (js : List Nat) (s : State), s.mem.wf = true →
      (js.foldl (State.storeByte lin v) s).mem.wf = true := by
    intro js
    induction js with
    | nil => exact fun _ h => h
    | cons j js ih =>
      intro s h
      refine ih _ ?_
      unfold State.storeByte
      split
      · exact h
      · exact Memory.wf_write _ (BitVec.isLt _) h
  exact key _ s h

end

/-! ### Locations -/

section
variable (s : State) (w : Width) (l : Loc) (v : BitVec w.bits)

@[simp] theorem State.storeLoc_seg : (s.storeLoc w l v).seg = s.seg := by cases l <;> simp [State.storeLoc]
@[simp] theorem State.storeLoc_eip : (s.storeLoc w l v).eip = s.eip := by cases l <;> simp [State.storeLoc]
@[simp] theorem State.storeLoc_flags : (s.storeLoc w l v).flags = s.flags := by cases l <;> simp [State.storeLoc]
@[simp] theorem State.storeLoc_flagsOther : (s.storeLoc w l v).flagsOther = s.flagsOther := by
  cases l <;> simp [State.storeLoc]
@[simp] theorem State.storeLoc_accessorCache : (s.storeLoc w l v).accessorCache = s.accessorCache := by
  cases l <;> simp [State.storeLoc]
@[simp] theorem State.storeLoc_status : (s.storeLoc w l v).status = s.status := by
  cases l <;> simp [State.storeLoc]
@[simp] theorem State.storeLoc_params : (s.storeLoc w l v).params = s.params := by
  cases l <;> simp [State.storeLoc]
@[simp] theorem State.storeLoc_pending : (s.storeLoc w l v).pending = s.pending := by
  cases l <;> simp [State.storeLoc]
@[simp] theorem State.storeLoc_draws : (s.storeLoc w l v).draws = s.draws := by cases l <;> simp [State.storeLoc]
@[simp] theorem State.storeLoc_busLog : (s.storeLoc w l v).busLog = writeCalls w l v ++ s.busLog := by
  cases l <;> simp [State.storeLoc, writeCalls]

/-- What a store to a location leaves behind. -/
theorem State.storeLoc_stored : Stored w l v s (s.storeLoc w l v) := by
  cases l with
  | reg r => exact ⟨rfl, fun _ => rfl⟩
  | mem lin =>
    refine ⟨State.memWrite_gpr s w lin v, fun a => ?_⟩
    have h := State.byteAt_memWrite s w lin v a
    cases hj : s.byteIndex w lin a with
    | none => rw [hj] at h; exact h
    | some j => rw [hj] at h; exact fun hm => by simpa [State.storeLoc, hm] using h

/-- A store to a location keeps the canonical form of memory. -/
theorem State.storeLoc_wf (h : s.mem.wf = true) : (s.storeLoc w l v).mem.wf = true := by
  cases l with
  | reg r => exact h
  | mem lin => exact State.memWrite_wf s w lin v h

end

/-- `Stored` reads the registers, memory and the launch parameters of the state before, the registers and memory of
the state after. -/
theorem Stored.congr {w : Width} {l : Loc} {v : BitVec w.bits} {s s' t t' : State} (h : Stored w l v s t)
    (hg : s'.gpr = s.gpr) (hm : s'.mem = s.mem) (hp : s'.params = s.params) (hg' : t'.gpr = t.gpr)
    (hm' : t'.mem = t.mem) : Stored w l v s' t' := by
  cases l with
  | reg r =>
    refine ⟨by rw [hg', hg]; exact h.1, fun a => ?_⟩
    rw [State.byteAt_congr hm', State.byteAt_congr hm]
    exact h.2 a
  | mem lin =>
    refine ⟨by rw [hg', hg]; exact h.1, fun a => ?_⟩
    have ha := h.2 a
    rw [State.byteAt_congr hm', State.byteAt_congr hm, State.isMmio_congr hp]
    have hi : s'.byteIndex w lin a = s.byteIndex w lin a := by
      simp only [State.byteIndex, State.byteAddr_congr hp]
    rwa [hi]

/-! ### Instruction fetch -/

/-- A field that one fetch leaves alone is left alone by a run of fetches. -/
theorem State.fetchBytes_keeps {α : Type} (p : State → α) (hp : ∀ s k, p (State.fetchByte k s).2 = p s) (n k : Nat)
    (s : State) : p (s.fetchBytes n k).2 = p s := by
  induction n generalizing k s with
  | zero => rfl
  | succ n ih =>
    simp only [State.fetchBytes]
    rw [ih, hp]

section
variable (s : State) (n : Nat)

@[simp] theorem State.afterFetch_gpr : (s.afterFetch n).gpr = s.gpr :=
  State.fetchBytes_keeps State.gpr (fun _ _ => by simp) n 0 s
@[simp] theorem State.afterFetch_seg : (s.afterFetch n).seg = s.seg :=
  State.fetchBytes_keeps State.seg (fun _ _ => by simp) n 0 s
@[simp] theorem State.afterFetch_eip : (s.afterFetch n).eip = s.eip :=
  State.fetchBytes_keeps State.eip (fun _ _ => by simp) n 0 s
@[simp] theorem State.afterFetch_flags : (s.afterFetch n).flags = s.flags :=
  State.fetchBytes_keeps State.flags (fun _ _ => by simp) n 0 s
@[simp] theorem State.afterFetch_flagsOther : (s.afterFetch n).flagsOther = s.flagsOther :=
  State.fetchBytes_keeps State.flagsOther (fun _ _ => by simp) n 0 s
@[simp] theorem State.afterFetch_accessorCache : (s.afterFetch n).accessorCache = s.accessorCache :=
  State.fetchBytes_keeps State.accessorCache (fun _ _ => by simp) n 0 s
@[simp] theorem State.afterFetch_status : (s.afterFetch n).status = s.status :=
  State.fetchBytes_keeps State.status (fun _ _ => by simp) n 0 s
@[simp] theorem State.afterFetch_mem : (s.afterFetch n).mem = s.mem :=
  State.fetchBytes_keeps State.mem (fun _ _ => by simp) n 0 s
@[simp] theorem State.afterFetch_params : (s.afterFetch n).params = s.params :=
  State.fetchBytes_keeps State.params (fun _ _ => by simp) n 0 s
@[simp] theorem State.afterFetch_pending : (s.afterFetch n).pending = s.pending :=
  State.fetchBytes_keeps State.pending (fun _ _ => by simp) n 0 s

end

/-- The bytes fetched, `n` of them. -/
@[simp] theorem State.fetchBytes_length (n k : Nat) (s : State) : (s.fetchBytes n k).1.length = n := by
  induction n generalizing k s with
  | zero => rfl
  | succ n ih => simp [State.fetchBytes, ih]

/-- The window holds 15 bytes (30_encoding R303). -/
@[simp] theorem State.window_length (s : State) : s.window.length = maxLength := State.fetchBytes_length _ _ _

end Sys2Proof.Machine
end

