-- ==== Sys2Proof/Laws/Operands.lean ====
section
/-!
SUPPORT. What the operand accessors read, and one lemma per shared operation of the instruction families that says
everything the operation does.
-/
namespace Sys2Proof.Machine

/-! ### What an operand depends on -/

/-- A location depends on the registers, the segment bases and the launch parameters. -/
theorem State.eLoc_congr {s t : State} (hg : t.gpr = s.gpr) (hs : t.seg = s.seg) (hp : t.params = s.params) (h : Head)
    (e : EOperand) : t.eLoc h e = s.eLoc h e := by
  cases e <;>
    simp [State.eLoc, State.linearOf, State.linear, State.segBase, State.base16, State.r16, State.r32,
      State.readReg, State.scaledIndex, State.sibSegment, hg, hs, hp]

theorem State.destLoc_congr {s t : State} (hg : t.gpr = s.gpr) (hs : t.seg = s.seg) (hp : t.params = s.params)
    (h : Head) (d : Dest) : t.destLoc h d = s.destLoc h d := by
  cases d <;> simp [State.destLoc, State.eLoc_congr hg hs hp]

/-- The value of a memory access depends on memory, the launch parameters and the draw. -/
theorem State.memValue_congr {s t : State} (hm : t.mem = s.mem) (hp : t.params = s.params) (hd : t.draws = s.draws)
    (w : Width) (lin : Dword) : t.memValue w lin = s.memValue w lin := by
  cases s
  cases t
  subst hm hp hd
  rfl

theorem State.locValue_congr {s t : State} (hg : t.gpr = s.gpr) (hm : t.mem = s.mem) (hp : t.params = s.params)
    (hd : t.draws = s.draws) (w : Width) (l : Loc) : t.locValue w l = s.locValue w l := by
  cases l with
  | reg r => simp only [State.locValue, State.readReg, hg]
  | mem lin => exact State.memValue_congr hm hp hd w lin

/-- Whether an operand is an `r/m` operand. -/
def Operand.isRm : Operand → Bool
  | .memory _ => true
  | .register _ => false
  | .imm8 _ _ => false
  | .immZ _ _ => false
  | .fixed _ => false
  | .one => false

/-- The value of an operand that is no `r/m` operand depends on the registers alone. -/
theorem State.operandValue_congr {s t : State} (hg : t.gpr = s.gpr) (hs : t.seg = s.seg) (hm : t.mem = s.mem)
    (hp : t.params = s.params) {o : Operand} (hd : o.isRm = true → t.draws = s.draws) (w : Width) (h : Head) :
    t.operandValue w h o = s.operandValue w h o := by
  cases o with
  | memory e =>
    simp only [State.operandValue, State.eLoc_congr hg hs hp]
    exact State.locValue_congr hg hm hp (hd rfl) w _
  | register r => simp only [State.operandValue, State.readReg, hg]
  | imm8 v b => rfl
  | immZ v b => rfl
  | fixed r => simp only [State.operandValue, State.readReg, hg]
  | one => rfl

/-- The value a source accessor loads (30_encoding R332). -/
@[simp] theorem State.loadValue_fst (s : State) (w : Width) (h : Head) (o : Operand) :
    (s.loadValue w h o).1 = s.operandValue w h o := by
  cases o with
  | memory e =>
    simp only [State.loadValue, State.loadLoc_fst, State.operandValue]
    rw [State.eLoc_congr (State.getOrCreate_gpr s _) (State.getOrCreate_seg s _) (State.getOrCreate_params s _)]
    exact State.locValue_congr (State.getOrCreate_gpr s _) (State.getOrCreate_mem s _) (State.getOrCreate_params s _)
      (State.getOrCreate_draws s _) w _
  | register r => simp [State.loadValue, State.operandValue, State.readReg]
  | imm8 v b => rfl
  | immZ v b => rfl
  | fixed r => simp [State.loadValue, State.operandValue, State.readReg]
  | one => rfl

theorem State.readCalls_congr {s t : State} (hm : t.mem = s.mem) (hp : t.params = s.params) (hd : t.draws = s.draws)
    (w : Width) (l : Loc) : t.readCalls w l = s.readCalls w l := by
  cases l with
  | reg r => rfl
  | mem lin => simp only [State.readCalls, State.memValue_congr hm hp hd]

theorem State.sourceCalls_congr {s t : State} (hg : t.gpr = s.gpr) (hs : t.seg = s.seg) (hm : t.mem = s.mem)
    (hp : t.params = s.params) {o : Operand} (hd : o.isRm = true → t.draws = s.draws) (w : Width) (h : Head) :
    t.sourceCalls w h o = s.sourceCalls w h o := by
  cases o with
  | memory e =>
    simp only [State.sourceCalls, State.eLoc_congr hg hs hp]
    exact State.readCalls_congr hm hp (hd rfl) w _
  | register r => rfl
  | imm8 v b => rfl
  | immZ v b => rfl
  | fixed r => rfl
  | one => rfl

/-- The interface calls of a source accessor. -/
@[simp] theorem State.loadValue_busLog (s : State) (w : Width) (h : Head) (o : Operand) :
    (s.loadValue w h o).2.busLog = s.sourceCalls w h o ++ s.busLog := by
  cases o with
  | memory e =>
    simp only [State.loadValue, State.loadLoc_busLog, State.sourceCalls, State.getOrCreate_busLog]
    rw [State.eLoc_congr (State.getOrCreate_gpr s _) (State.getOrCreate_seg s _) (State.getOrCreate_params s _)]
    rw [State.readCalls_congr (State.getOrCreate_mem s _) (State.getOrCreate_params s _)
      (State.getOrCreate_draws s _)]
  | register r => simp [State.loadValue, State.sourceCalls]
  | imm8 v b => simp [State.loadValue, State.sourceCalls]
  | immZ v b => simp [State.loadValue, State.sourceCalls]
  | fixed r => simp [State.loadValue, State.sourceCalls]
  | one => simp [State.loadValue, State.sourceCalls]

/-- A load of a register location takes no draw. -/
@[simp] theorem State.loadLoc_reg_draws (s : State) (w : Width) (r : Reg) : (s.loadLoc w (.reg r)).2.draws = s.draws :=
  rfl

/-- A load of an operand that is no `r/m` operand takes no draw. -/
theorem State.loadValue_draws {o : Operand} (ho : o.isRm = false) (s : State) (w : Width) (h : Head) :
    (s.loadValue w h o).2.draws = s.draws := by
  cases o with
  | memory e => cases ho
  | register r => simp [State.loadValue]
  | imm8 v b => simp [State.loadValue]
  | immZ v b => simp [State.loadValue]
  | fixed r => simp [State.loadValue]
  | one => simp [State.loadValue]

/-! ### States that differ in the model's own fields alone -/

/-- A request for an accessor keeps every shape cached before (30_encoding R336). -/
theorem State.getOrCreate_cache (s : State) (x : Shape) : s.accessorCache <+: (s.getOrCreate x).accessorCache := by
  unfold State.getOrCreate
  split
  · exact List.prefix_refl _
  · exact List.prefix_append _ _

/-- The registers, segments, memory, launch constants, `EIP`, flags and status of two states are the same, and the
accessor cache has at most grown. -/
structure Same (s t : State) : Prop where
  gpr : t.gpr = s.gpr
  seg : t.seg = s.seg
  eip : t.eip = s.eip
  flags : t.flags = s.flags
  flagsOther : t.flagsOther = s.flagsOther
  status : t.status = s.status
  mem : t.mem = s.mem
  params : t.params = s.params
  pending : t.pending = s.pending
  cache : s.accessorCache <+: t.accessorCache

theorem Same.refl (s : State) : Same s s := ⟨rfl, rfl, rfl, rfl, rfl, rfl, rfl, rfl, rfl, List.prefix_refl _⟩

theorem Same.trans {s t u : State} (h : Same s t) (k : Same t u) : Same s u :=
  ⟨k.gpr.trans h.gpr, k.seg.trans h.seg, k.eip.trans h.eip, k.flags.trans h.flags,
    k.flagsOther.trans h.flagsOther, k.status.trans h.status, k.mem.trans h.mem, k.params.trans h.params,
    k.pending.trans h.pending, h.cache.trans k.cache⟩

theorem Same.loadLoc (s : State) (w : Width) (l : Loc) : Same s (s.loadLoc w l).2 := by
  constructor <;> simp

theorem Same.getOrCreate (s : State) (x : Shape) : Same s (s.getOrCreate x) := by
  constructor <;> first | simp | exact State.getOrCreate_cache s x

theorem Same.loadValue (s : State) (w : Width) (h : Head) (o : Operand) : Same s (s.loadValue w h o).2 := by
  cases o <;>
    first
    | exact (Same.getOrCreate s _).trans (Same.loadLoc _ w _)
    | exact Same.getOrCreate s _

theorem Same.loadAddress (s : State) (w : Width) (h : Head) (d : Dest) : Same s (s.loadAddress w h d).2 :=
  Same.getOrCreate s _

theorem Same.requestAll (s : State) (xs : List Shape) : Same s (s.requestAll xs) := by
  induction xs generalizing s with
  | nil => exact Same.refl s
  | cons x xs ih => exact (Same.getOrCreate s x).trans (ih _)

/-- What loading the operands of a one-operand multiply or divide leaves alone (43_muldiv R701). -/
theorem Same.loadImplicit (s : State) (w : Width) (h : Head) (e : EOperand) (ds rs : List (Width × Reg)) :
    Same s (s.loadImplicit w h e ds rs).2 :=
  ((Same.requestAll s _).trans (Same.loadValue _ w h _)).trans (Same.requestAll _ _)

/-- The explicit operand of a one-operand multiply or divide, and the calls of its load (43_muldiv R700). -/
theorem State.loadImplicit_fst (s : State) (w : Width) (h : Head) (e : EOperand) (ds rs : List (Width × Reg)) :
    (s.loadImplicit w h e ds rs).1 = s.locValue w (s.eLoc h e) := by
  simp only [State.loadImplicit, State.loadValue_fst]
  exact State.operandValue_congr (by simp) (by simp) (by simp) (by simp) (by simp) w h

theorem State.loadImplicit_busLog (s : State) (w : Width) (h : Head) (e : EOperand) (ds rs : List (Width × Reg)) :
    (s.loadImplicit w h e ds rs).2.busLog = s.readCalls w (s.eLoc h e) ++ s.busLog := by
  simp only [State.loadImplicit, State.requestFixed_busLog, State.loadValue_busLog]
  rw [State.sourceCalls_congr (s := s) (by simp) (by simp) (by simp) (by simp) (by simp)]
  rfl

theorem Same.portRead (s : State) (w : Width) (p : BitVec 16) : Same s (s.portRead w p).2 := by
  constructor <;> simp

theorem Same.portWrite (s : State) (w : Width) (p : BitVec 16) (v : BitVec w.bits) : Same s (s.portWrite w p v) := by
  constructor <;> simp

theorem Same.afterFetch (s : State) (n : Nat) : Same s (s.afterFetch n) := by
  constructor <;> simp

/-- A store, an update of the flags and the advance of `EIP`, from a state that agrees with `s`: the instruction
completes. -/
theorem Completes.of {h : Head} {s t u : State} (hst : Same s t) (he : u.eip = t.ipwrap (t.eip + BitVec.ofNat 32 h.len))
    (hu : u.status = t.status) (h1 : u.seg = t.seg) (h2 : u.flagsOther = t.flagsOther) (h3 : u.params = t.params)
    (h4 : u.pending = t.pending) (h5 : u.accessorCache = t.accessorCache) : Completes h s u where
  eip := by rw [he]; simp only [State.ipwrap, hst.eip, hst.params]
  status := hu.trans hst.status
  kept := ⟨h1.trans hst.seg, h2.trans hst.flagsOther, h3.trans hst.params, h4.trans hst.pending⟩
  cache := by rw [h5]; exact hst.cache

/-! ### The families -/

/-- Not both operands are `r/m` operands (30_encoding R345: at most one memory operand). -/
def oneRm (d : Dest) (x : Operand) : Prop := (∃ r, d = .register r) ∨ (∃ r, d = .fixed r) ∨ x.isRm = false

/-- The draws after the load of a destination, where the source is an `r/m` operand. -/
theorem draws_of_oneRm {d : Dest} {x : Operand} (hdx : oneRm d x) (s t : State) (w : Width) (h : Head)
    (hx : x.isRm = true) : (t.loadLoc w (s.destLoc h d)).2.draws = t.draws := by
  obtain ⟨r, rfl⟩ | ⟨r, rfl⟩ | hn := hdx
  · rfl
  · rfl
  · rw [hn] at hx; cases hx

/-- What `exec_binary` does (41_alu_binary R501). -/
theorem State.binary_spec (op : BinOp) (w : Width) (h : Head) (d : Dest) (x : Operand) (s : State) (hdx : oneRm d x) :
    Completes h s (s.binary op w h d x) ∧
      (if op.stores then
          Stored w (s.destLoc h d)
            (op.result w (s.locValue w (s.destLoc h d)) (s.operandValue w h x) (op.readsCarry && s.flag .cf)) s
            (s.binary op w h d x)
        else NothingStored s (s.binary op w h d x)) ∧
      (s.binary op w h d x).busLog =
        (if op.stores then
            writeCalls w (s.destLoc h d)
              (op.result w (s.locValue w (s.destLoc h d)) (s.operandValue w h x) (op.readsCarry && s.flag .cf))
          else []) ++ s.sourceCalls w h x ++ s.readCalls w (s.destLoc h d) ++ s.busLog ∧
      ∃ u : State, (∀ f, u.flag f = s.flag f) ∧
        (s.binary op w h d x).flags =
          (u.writeFlags (op.actions w (s.locValue w (s.destLoc h d)) (s.operandValue w h x)
            (op.readsCarry && s.flag .cf))).flags := by
  have hA : Same s (s.loadAddress w h d).2 := Same.loadAddress s w h d
  have hB : Same s ((s.loadAddress w h d).2.loadLoc w (s.destLoc h d)).2 := hA.trans (Same.loadLoc _ w _)
  have hC : Same s (((s.loadAddress w h d).2.loadLoc w (s.destLoc h d)).2.loadValue w h x).2 :=
    hB.trans (Same.loadValue _ w h x)
  have ha : (s.loadAddress w h d).2.locValue w (s.destLoc h d) = s.locValue w (s.destLoc h d) :=
    State.locValue_congr hA.gpr hA.mem hA.params (by simp) w _
  have hdr : x.isRm = true → ((s.loadAddress w h d).2.loadLoc w (s.destLoc h d)).2.draws = s.draws := by
    intro hx
    rw [draws_of_oneRm hdx s _ w h hx]
    simp
  have hb : ((s.loadAddress w h d).2.loadLoc w (s.destLoc h d)).2.operandValue w h x = s.operandValue w h x :=
    State.operandValue_congr hB.gpr hB.seg hB.mem hB.params hdr w h
  have hcalls : (((s.loadAddress w h d).2.loadLoc w (s.destLoc h d)).2.loadValue w h x).2.busLog =
      s.sourceCalls w h x ++ s.readCalls w (s.destLoc h d) ++ s.busLog := by
    rw [State.loadValue_busLog, State.sourceCalls_congr hB.gpr hB.seg hB.mem hB.params hdr, State.loadLoc_busLog,
      State.readCalls_congr hA.mem hA.params (by simp)]
    simp
  have hflag : ∀ f, (((s.loadAddress w h d).2.loadLoc w (s.destLoc h d)).2.loadValue w h x).2.flag f = s.flag f :=
    State.flag_congr hC.flags
  simp only [State.binary, State.loadAddress_fst, State.loadLoc_fst, State.loadValue_fst, State.carryIn_fst, ha, hb,
    hflag]
  generalize (((s.loadAddress w h d).2.loadLoc w (s.destLoc h d)).2.loadValue w h x).2 = u at hC hcalls hflag
  generalize hr : op.result w (s.locValue w (s.destLoc h d)) (s.operandValue w h x) (op.readsCarry && s.flag .cf) = r
  generalize hact : op.actions w (s.locValue w (s.destLoc h d)) (s.operandValue w h x)
    (op.readsCarry && s.flag .cf) = act
  have hU : (u.carryIn op).2.gpr = s.gpr ∧ (u.carryIn op).2.mem = s.mem ∧ (u.carryIn op).2.params = s.params :=
    ⟨by simp [hC.gpr], by simp [hC.mem], by simp [hC.params]⟩
  by_cases hst : op.stores = true
  · simp only [hst, if_true]
    refine ⟨?_, ?_, ?_, ((u.carryIn op).2.storeLoc w (s.destLoc h d) r), ?_, ?_⟩
    · exact Completes.of (t := u) hC (by simp [State.ipwrap]) (by simp) (by simp) (by simp) (by simp) (by simp)
        (by simp)
    · exact (State.storeLoc_stored (u.carryIn op).2 w (s.destLoc h d) r).congr hU.1.symm hU.2.1.symm hU.2.2.symm
        (by simp) (by simp)
    · simp [hcalls]
    · intro f
      rw [State.flag_congr (State.storeLoc_flags (u.carryIn op).2 w _ r) f, State.flag_carryIn, hflag]
    · rfl
  · simp only [hst, Bool.false_eq_true, if_false]
    refine ⟨?_, ?_, ?_, (u.carryIn op).2, ?_, ?_⟩
    · exact Completes.of (t := u) hC (by simp [State.ipwrap]) (by simp) (by simp) (by simp) (by simp) (by simp)
        (by simp)
    · exact ⟨by simp [hC.gpr], fun a => State.byteAt_congr (by simp [hC.mem]) a⟩
    · simp [hcalls]
    · intro f
      rw [State.flag_carryIn, hflag]
    · rfl

/-- What TEST does (41_alu_binary R518). -/
theorem State.test_spec (w : Width) (h : Head) (x y : Operand) (s : State) (hy : y.isRm = false) :
    Completes h s (s.test w h x y) ∧ NothingStored s (s.test w h x y) ∧
      (s.test w h x y).busLog = s.sourceCalls w h x ++ s.busLog ∧
      ∃ u : State, (∀ f, u.flag f = s.flag f) ∧
        (s.test w h x y).flags =
          (u.writeFlags (logicActions w (s.operandValue w h x &&& s.operandValue w h y))).flags := by
  have hA : Same s (s.loadValue w h x).2 := Same.loadValue s w h x
  have hB : Same s ((s.loadValue w h x).2.loadValue w h y).2 := hA.trans (Same.loadValue _ w h y)
  have hb : (s.loadValue w h x).2.operandValue w h y = s.operandValue w h y :=
    State.operandValue_congr hA.gpr hA.seg hA.mem hA.params (by simp [hy]) w h
  have hcalls : ((s.loadValue w h x).2.loadValue w h y).2.busLog = s.sourceCalls w h x ++ s.busLog := by
    have : ∀ t : State, t.sourceCalls w h y = [] := by
      intro t; cases y <;> first | rfl | cases hy
    simp [this]
  simp only [State.test, State.loadValue_fst, hb]
  generalize ((s.loadValue w h x).2.loadValue w h y).2 = u at hB hcalls
  refine ⟨?_, ?_, ?_, u, State.flag_congr hB.flags, rfl⟩
  · exact Completes.of (t := u) hB (by simp [State.ipwrap]) (by simp) (by simp) (by simp) (by simp) (by simp)
        (by simp)
  · exact ⟨by simp [hB.gpr], fun a => State.byteAt_congr (by simp [hB.mem]) a⟩
  · simp [hcalls]

/-- What INC, DEC, NEG and NOT do (42_alu_unary R600, R610-R613). -/
theorem State.unary_spec (op : UnOp) (w : Width) (h : Head) (d : Dest) (s : State) :
    ReadModifyWrite h w (s.destLoc h d) (op.result w (s.locValue w (s.destLoc h d))) s (s.unary op w h d) ∧
      ∃ u : State, (∀ f, u.flag f = s.flag f) ∧
        (s.unary op w h d).flags = (u.writeFlags (op.actions w (s.locValue w (s.destLoc h d)))).flags := by
  have hA : Same s (s.loadAddress w h d).2 := Same.loadAddress s w h d
  have hB : Same s ((s.loadAddress w h d).2.loadLoc w (s.destLoc h d)).2 := hA.trans (Same.loadLoc _ w _)
  have ha : (s.loadAddress w h d).2.locValue w (s.destLoc h d) = s.locValue w (s.destLoc h d) :=
    State.locValue_congr hA.gpr hA.mem hA.params (by simp) w _
  have hcalls : ((s.loadAddress w h d).2.loadLoc w (s.destLoc h d)).2.busLog =
      s.readCalls w (s.destLoc h d) ++ s.busLog := by
    rw [State.loadLoc_busLog, State.readCalls_congr hA.mem hA.params (by simp)]
    simp
  simp only [State.unary, State.loadAddress_fst, State.loadLoc_fst, ha]
  generalize ((s.loadAddress w h d).2.loadLoc w (s.destLoc h d)).2 = u at hB hcalls
  generalize op.result w (s.locValue w (s.destLoc h d)) = r
  refine ⟨⟨?_, ?_, ?_⟩, u.storeLoc w (s.destLoc h d) r, ?_, rfl⟩
  · exact Completes.of (t := u) hB (by simp [State.ipwrap]) (by simp) (by simp) (by simp) (by simp) (by simp)
        (by simp)
  · exact (State.storeLoc_stored u w (s.destLoc h d) r).congr hB.gpr.symm hB.mem.symm hB.params.symm
      (by simp) (by simp)
  · simp [hcalls]
  · intro f
    rw [State.flag_congr (State.storeLoc_flags u w _ r) f, State.flag_congr hB.flags]

/-- What a shift or rotate does for a masked count other than 0 (44_shift_rotate R802). -/
theorem State.shift_spec (op : ShiftOp) (w : Width) (h : Head) (e : EOperand) (count : Operand) (s : State)
    (hn : count.isRm = false) (hc : maskedCount (s.operandValue .byte h count) ≠ 0#5) :
    ReadModifyWrite h w (s.eLoc h e)
        (op.result w (s.locValue w (s.eLoc h e)) (maskedCount (s.operandValue .byte h count))
          (op.readsCarry && s.flag .cf)) s (s.shift op w h e count) ∧
      ∃ u : State, (∀ f, u.flag f = s.flag f) ∧
        (s.shift op w h e count).flags =
          (u.writeFlags (op.actions w (s.locValue w (s.eLoc h e)) (maskedCount (s.operandValue .byte h count))
            (op.readsCarry && s.flag .cf))).flags := by
  have hA : Same s (s.loadAddress w h (.memory e)).2 := Same.loadAddress s w h _
  have hB : Same s ((s.loadAddress w h (.memory e)).2.loadLoc w (s.eLoc h e)).2 := hA.trans (Same.loadLoc _ w _)
  have hC : Same s (((s.loadAddress w h (.memory e)).2.loadLoc w (s.eLoc h e)).2.loadValue .byte h count).2 :=
    hB.trans (Same.loadValue _ _ h count)
  have ha : (s.loadAddress w h (.memory e)).2.locValue w (s.eLoc h e) = s.locValue w (s.eLoc h e) :=
    State.locValue_congr hA.gpr hA.mem hA.params (by simp) w _
  have hb : ((s.loadAddress w h (.memory e)).2.loadLoc w (s.eLoc h e)).2.operandValue .byte h count =
      s.operandValue .byte h count :=
    State.operandValue_congr hB.gpr hB.seg hB.mem hB.params (by simp [hn]) _ h
  have hcalls : (((s.loadAddress w h (.memory e)).2.loadLoc w (s.eLoc h e)).2.loadValue .byte h count).2.busLog =
      s.readCalls w (s.eLoc h e) ++ s.busLog := by
    have : ∀ t : State, t.sourceCalls .byte h count = [] := by
      intro t; cases count <;> first | rfl | cases hn
    rw [State.loadValue_busLog, this, State.loadLoc_busLog, State.readCalls_congr hA.mem hA.params (by simp)]
    simp
  have hflag : ∀ f,
      (((s.loadAddress w h (.memory e)).2.loadLoc w (s.eLoc h e)).2.loadValue .byte h count).2.flag f = s.flag f :=
    State.flag_congr hC.flags
  have hloc : (s.loadAddress w h (.memory e)).1 = s.eLoc h e := rfl
  simp only [State.shift, hloc, State.loadLoc_fst, State.loadValue_fst, State.shiftCarry_fst, ha, hb, hflag, hc,
    if_false]
  generalize (((s.loadAddress w h (.memory e)).2.loadLoc w (s.eLoc h e)).2.loadValue .byte h count).2 = u
    at hC hcalls hflag
  generalize op.result w (s.locValue w (s.eLoc h e)) (maskedCount (s.operandValue .byte h count))
    (op.readsCarry && s.flag .cf) = r
  refine ⟨⟨?_, ?_, ?_⟩, (u.shiftCarry op).2.storeLoc w (s.eLoc h e) r, ?_, rfl⟩
  · exact Completes.of (t := u) hC (by simp [State.ipwrap]) (by simp) (by simp) (by simp) (by simp) (by simp)
        (by simp)
  · exact (State.storeLoc_stored (u.shiftCarry op).2 w (s.eLoc h e) r).congr (by simp [hC.gpr]) (by simp [hC.mem])
      (by simp [hC.params]) (by simp) (by simp)
  · simp [hcalls]
  · intro f
    rw [State.flag_congr (State.storeLoc_flags (u.shiftCarry op).2 w _ r) f, State.flag_shiftCarry, hflag]

/-- What a shift or rotate does for a masked count of 0 (44_shift_rotate R801): one load of the location. -/
theorem State.shift_zero (op : ShiftOp) (w : Width) (h : Head) (e : EOperand) (count : Operand) (s : State)
    (hn : count.isRm = false) (hc : maskedCount (s.operandValue .byte h count) = 0#5) :
    Completes h s (s.shift op w h e count) ∧ (s.shift op w h e count).gpr = s.gpr ∧
      (s.shift op w h e count).mem = s.mem ∧ (s.shift op w h e count).flags = s.flags ∧
      (s.shift op w h e count).busLog = s.readCalls w (s.eLoc h e) ++ s.busLog := by
  have hA : Same s (s.loadAddress w h (.memory e)).2 := Same.loadAddress s w h _
  have hB : Same s ((s.loadAddress w h (.memory e)).2.loadLoc w (s.eLoc h e)).2 := hA.trans (Same.loadLoc _ w _)
  have hC : Same s (((s.loadAddress w h (.memory e)).2.loadLoc w (s.eLoc h e)).2.loadValue .byte h count).2 :=
    hB.trans (Same.loadValue _ _ h count)
  have hb : ((s.loadAddress w h (.memory e)).2.loadLoc w (s.eLoc h e)).2.operandValue .byte h count =
      s.operandValue .byte h count :=
    State.operandValue_congr hB.gpr hB.seg hB.mem hB.params (by simp [hn]) _ h
  have hcalls : (((s.loadAddress w h (.memory e)).2.loadLoc w (s.eLoc h e)).2.loadValue .byte h count).2.busLog =
      s.readCalls w (s.eLoc h e) ++ s.busLog := by
    have : ∀ t : State, t.sourceCalls .byte h count = [] := by
      intro t; cases count <;> first | rfl | cases hn
    rw [State.loadValue_busLog, this, State.loadLoc_busLog, State.readCalls_congr hA.mem hA.params (by simp)]
    simp
  have hloc : (s.loadAddress w h (.memory e)).1 = s.eLoc h e := rfl
  simp only [State.shift, hloc, State.loadValue_fst, hb, hc, if_true]
  generalize (((s.loadAddress w h (.memory e)).2.loadLoc w (s.eLoc h e)).2.loadValue .byte h count).2 = u
    at hC hcalls
  refine ⟨?_, ?_, ?_, ?_, ?_⟩
  · exact Completes.of (t := u) hC (by simp [State.ipwrap]) (by simp) (by simp) (by simp) (by simp) (by simp)
        (by simp)
  · simp [hC.gpr]
  · simp [hC.mem]
  · simp [hC.flags]
  · simp [hcalls]

/-- A jump: `EIP`, and a fill of the flag cache, are all that changes (45_flag_consumers R921). -/
theorem State.jumpIf_spec (c : Cond) (h : Head) (rel : Dword) (s : State) :
    (s.jumpIf c h rel).eip =
        (if s.condition c then s.jumpTarget h rel else s.ipwrap (s.eip + BitVec.ofNat 32 h.len)) ∧
      (s.jumpIf c h rel).gpr = s.gpr ∧ (s.jumpIf c h rel).mem = s.mem ∧ (s.jumpIf c h rel).status = s.status ∧
      (s.jumpIf c h rel).busLog = s.busLog ∧ LaunchKept s (s.jumpIf c h rel) ∧ FlagsKept s (s.jumpIf c h rel) := by
  simp only [State.jumpIf, State.readCond_fst]
  by_cases hc : s.condition c = true
  · simp only [hc, if_true]
    exact ⟨by simp [State.jumpTarget, State.ipwrap], by simp, by simp, by simp, by simp,
      ⟨by simp, by simp, by simp, by simp⟩,
      fun f => by rw [State.flag_congr (by simp : _ = (s.readCond c).2.flags) f, State.flag_readCond]⟩
  · simp only [hc, Bool.false_eq_true, if_false]
    exact ⟨by simp [State.ipwrap], by simp, by simp, by simp, by simp,
      ⟨by simp, by simp, by simp, by simp⟩,
      fun f => by rw [State.flag_congr (by simp : _ = (s.readCond c).2.flags) f, State.flag_readCond]⟩

end Sys2Proof.Machine
end

