-- ==== Sys2Proof/Laws/Exec.lean ====
section
/-!
SUPPORT. Everything `exec` and `step` can do, said once: `exec` answers a next state, which is that of one of the
shared operations, and `step` stops only where the run is over.
-/
namespace Sys2Proof.Machine

/-- The states an instruction that raises no event can lead to from `s`, by the shared operation that makes them. -/
inductive Ran (s : State) : State → Prop where
  | binary (op : BinOp) (w : Width) (h : Head) (d : Dest) (x : Operand) (hdx : oneRm d x) :
      Ran s (s.binary op w h d x)
  | test (w : Width) (h : Head) (x y : Operand) (hy : y.isRm = false) : Ran s (s.test w h x y)
  | unary (op : UnOp) (w : Width) (h : Head) (d : Dest) : Ran s (s.unary op w h d)
  | mul (w : Width) (h : Head) (e : EOperand) : Ran s (s.mul w h e)
  | imul (w : Width) (h : Head) (e : EOperand) : Ran s (s.imul w h e)
  | imul2 (w : Width) (h : Head) (r : Reg) (e : EOperand) : Ran s (s.imul2 w h r e)
  | imul3 (w : Width) (h : Head) (r : Reg) (e : EOperand) (x : Operand) (hx : x.isRm = false) :
      Ran s (s.imul3 w h r e x)
  | divided (w : Width) (h : Head) (e : EOperand) (r q : BitVec w.bits) :
      Ran s ((((s.loadImplicit w h e (quotientRegs w) (productRegs w)).2.writePair w r q).writeFlags
        allUndefined).advance h.len)
  | shift (op : ShiftOp) (w : Width) (h : Head) (e : EOperand) (n : Operand) (hn : n.isRm = false) :
      Ran s (s.shift op w h e n)
  | clc (h : Head) : Ran s ((s.writeFlags { cf := .explicit false }).advance h.len)
  | stc (h : Head) : Ran s ((s.writeFlags { cf := .explicit true }).advance h.len)
  | cmc (h : Head) :
      Ran s (((s.readFlag .cf).2.writeFlags { cf := .explicit (!(s.readFlag .cf).1) }).advance h.len)
  | lahf (h : Head) : Ran s (s.lahf h)
  | sahf (h : Head) : Ran s (s.sahf h)
  | jumpShort (c : Cond) (h : Head) (v : BitVec 8) : Ran s (s.jumpShort c h v)
  | jumpNear (c : Cond) (h : Head) (v : BitVec 32) : Ran s (s.jumpNear c h v)
  | setcc (c : Cond) (h : Head) (e : EOperand) : Ran s (s.setcc c h e)
  | portIn (w : Width) (h : Head) (p : Operand) (hp : p.isRm = false) : Ran s (s.portIn w h p)
  | portOut (w : Width) (h : Head) (p : Operand) (hp : p.isRm = false) : Ran s (s.portOut w h p)
  | intoNot (h : Head) : Ran s ((s.readFlag .of).2.advance h.len)

/-- The events an instruction can raise from `s`, each with the state that is handed to `deliver`. -/
inductive Raised (s : State) : State → Event → Prop where
  | divide (w : Width) (h : Head) (e : EOperand) :
      Raised s (s.loadImplicit w h e (quotientRegs w) (productRegs w)).2 (.fault 0#8)
  | undefinedOpcode : Raised s s (.fault 6#8)
  | int3 (h : Head) : Raised s (s.advance h.len) (.softInt 3#8)
  | intN (h : Head) (v : BitVec 8) :
      Raised s ((s.loadValue .byte h (.imm8 v false)).2.advance h.len) (.softInt v)
  | into (h : Head) : Raised s ((s.readFlag .of).2.advance h.len) (.softInt 4#8)

/-- What an instruction answers: the state of a shared operation, or what `deliver` makes of the event it raises. -/
inductive Answered (s : State) : State → Prop where
  | ran {t : State} (h : Ran s t) : Answered s t
  | raised {u : State} {e : Event} (h : Raised s u e) : Answered s (u.deliver e)

theorem State.div_answered (s : State) (w : Width) (h : Head) (e : EOperand) : Answered s (s.div w h e) := by
  simp only [State.div, State.finishDivide]
  split
  · exact .raised (.divide w h e)
  · exact .ran (.divided w h e _ _)

theorem State.idiv_answered (s : State) (w : Width) (h : Head) (e : EOperand) : Answered s (s.idiv w h e) := by
  simp only [State.idiv, State.finishDivide]
  split
  · exact .raised (.divide w h e)
  · exact .ran (.divided w h e _ _)

theorem State.into_answered (s : State) (h : Head) : Answered s (s.into h) := by
  simp only [State.into]
  split
  · exact .raised (.into h)
  · exact .ran (.intoNot h)

/-- `exec` answers a next state on every instruction, one that a shared operation or `deliver` makes. -/
theorem exec_answered (i : Instr) (s : State) : ∃ t, exec i s = .next t ∧ Answered s t := by
  cases i with
  | addEbGb h r e => exact ⟨_, rfl, .ran (.binary _ _ _ _ _ (.inr (.inr rfl)))⟩
  | addEvGv h r e => exact ⟨_, rfl, .ran (.binary _ _ _ _ _ (.inr (.inr rfl)))⟩
  | addGbEb h r e => exact ⟨_, rfl, .ran (.binary _ _ _ _ _ (.inl ⟨_, rfl⟩))⟩
  | addGvEv h r e => exact ⟨_, rfl, .ran (.binary _ _ _ _ _ (.inl ⟨_, rfl⟩))⟩
  | addALIb h v => exact ⟨_, rfl, .ran (.binary _ _ _ _ _ (.inr (.inl ⟨_, rfl⟩)))⟩
  | addEAXIz h v => exact ⟨_, rfl, .ran (.binary _ _ _ _ _ (.inr (.inl ⟨_, rfl⟩)))⟩
  | orEbGb h r e => exact ⟨_, rfl, .ran (.binary _ _ _ _ _ (.inr (.inr rfl)))⟩
  | orEvGv h r e => exact ⟨_, rfl, .ran (.binary _ _ _ _ _ (.inr (.inr rfl)))⟩
  | orGbEb h r e => exact ⟨_, rfl, .ran (.binary _ _ _ _ _ (.inl ⟨_, rfl⟩))⟩
  | orGvEv h r e => exact ⟨_, rfl, .ran (.binary _ _ _ _ _ (.inl ⟨_, rfl⟩))⟩
  | orALIb h v => exact ⟨_, rfl, .ran (.binary _ _ _ _ _ (.inr (.inl ⟨_, rfl⟩)))⟩
  | orEAXIz h v => exact ⟨_, rfl, .ran (.binary _ _ _ _ _ (.inr (.inl ⟨_, rfl⟩)))⟩
  | adcEbGb h r e => exact ⟨_, rfl, .ran (.binary _ _ _ _ _ (.inr (.inr rfl)))⟩
  | adcEvGv h r e => exact ⟨_, rfl, .ran (.binary _ _ _ _ _ (.inr (.inr rfl)))⟩
  | adcGbEb h r e => exact ⟨_, rfl, .ran (.binary _ _ _ _ _ (.inl ⟨_, rfl⟩))⟩
  | adcGvEv h r e => exact ⟨_, rfl, .ran (.binary _ _ _ _ _ (.inl ⟨_, rfl⟩))⟩
  | adcALIb h v => exact ⟨_, rfl, .ran (.binary _ _ _ _ _ (.inr (.inl ⟨_, rfl⟩)))⟩
  | adcEAXIz h v => exact ⟨_, rfl, .ran (.binary _ _ _ _ _ (.inr (.inl ⟨_, rfl⟩)))⟩
  | sbbEbGb h r e => exact ⟨_, rfl, .ran (.binary _ _ _ _ _ (.inr (.inr rfl)))⟩
  | sbbEvGv h r e => exact ⟨_, rfl, .ran (.binary _ _ _ _ _ (.inr (.inr rfl)))⟩
  | sbbGbEb h r e => exact ⟨_, rfl, .ran (.binary _ _ _ _ _ (.inl ⟨_, rfl⟩))⟩
  | sbbGvEv h r e => exact ⟨_, rfl, .ran (.binary _ _ _ _ _ (.inl ⟨_, rfl⟩))⟩
  | sbbALIb h v => exact ⟨_, rfl, .ran (.binary _ _ _ _ _ (.inr (.inl ⟨_, rfl⟩)))⟩
  | sbbEAXIz h v => exact ⟨_, rfl, .ran (.binary _ _ _ _ _ (.inr (.inl ⟨_, rfl⟩)))⟩
  | andEbGb h r e => exact ⟨_, rfl, .ran (.binary _ _ _ _ _ (.inr (.inr rfl)))⟩
  | andEvGv h r e => exact ⟨_, rfl, .ran (.binary _ _ _ _ _ (.inr (.inr rfl)))⟩
  | andGbEb h r e => exact ⟨_, rfl, .ran (.binary _ _ _ _ _ (.inl ⟨_, rfl⟩))⟩
  | andGvEv h r e => exact ⟨_, rfl, .ran (.binary _ _ _ _ _ (.inl ⟨_, rfl⟩))⟩
  | andALIb h v => exact ⟨_, rfl, .ran (.binary _ _ _ _ _ (.inr (.inl ⟨_, rfl⟩)))⟩
  | andEAXIz h v => exact ⟨_, rfl, .ran (.binary _ _ _ _ _ (.inr (.inl ⟨_, rfl⟩)))⟩
  | subEbGb h r e => exact ⟨_, rfl, .ran (.binary _ _ _ _ _ (.inr (.inr rfl)))⟩
  | subEvGv h r e => exact ⟨_, rfl, .ran (.binary _ _ _ _ _ (.inr (.inr rfl)))⟩
  | subGbEb h r e => exact ⟨_, rfl, .ran (.binary _ _ _ _ _ (.inl ⟨_, rfl⟩))⟩
  | subGvEv h r e => exact ⟨_, rfl, .ran (.binary _ _ _ _ _ (.inl ⟨_, rfl⟩))⟩
  | subALIb h v => exact ⟨_, rfl, .ran (.binary _ _ _ _ _ (.inr (.inl ⟨_, rfl⟩)))⟩
  | subEAXIz h v => exact ⟨_, rfl, .ran (.binary _ _ _ _ _ (.inr (.inl ⟨_, rfl⟩)))⟩
  | xorEbGb h r e => exact ⟨_, rfl, .ran (.binary _ _ _ _ _ (.inr (.inr rfl)))⟩
  | xorEvGv h r e => exact ⟨_, rfl, .ran (.binary _ _ _ _ _ (.inr (.inr rfl)))⟩
  | xorGbEb h r e => exact ⟨_, rfl, .ran (.binary _ _ _ _ _ (.inl ⟨_, rfl⟩))⟩
  | xorGvEv h r e => exact ⟨_, rfl, .ran (.binary _ _ _ _ _ (.inl ⟨_, rfl⟩))⟩
  | xorALIb h v => exact ⟨_, rfl, .ran (.binary _ _ _ _ _ (.inr (.inl ⟨_, rfl⟩)))⟩
  | xorEAXIz h v => exact ⟨_, rfl, .ran (.binary _ _ _ _ _ (.inr (.inl ⟨_, rfl⟩)))⟩
  | cmpEbGb h r e => exact ⟨_, rfl, .ran (.binary _ _ _ _ _ (.inr (.inr rfl)))⟩
  | cmpEvGv h r e => exact ⟨_, rfl, .ran (.binary _ _ _ _ _ (.inr (.inr rfl)))⟩
  | cmpGbEb h r e => exact ⟨_, rfl, .ran (.binary _ _ _ _ _ (.inl ⟨_, rfl⟩))⟩
  | cmpGvEv h r e => exact ⟨_, rfl, .ran (.binary _ _ _ _ _ (.inl ⟨_, rfl⟩))⟩
  | cmpALIb h v => exact ⟨_, rfl, .ran (.binary _ _ _ _ _ (.inr (.inl ⟨_, rfl⟩)))⟩
  | cmpEAXIz h v => exact ⟨_, rfl, .ran (.binary _ _ _ _ _ (.inr (.inl ⟨_, rfl⟩)))⟩
  | incZv h r => exact ⟨_, rfl, .ran (.unary _ _ _ _)⟩
  | decZv h r => exact ⟨_, rfl, .ran (.unary _ _ _ _)⟩
  | addEbIb h e v => exact ⟨_, rfl, .ran (.binary _ _ _ _ _ (.inr (.inr rfl)))⟩
  | orEbIb h e v => exact ⟨_, rfl, .ran (.binary _ _ _ _ _ (.inr (.inr rfl)))⟩
  | adcEbIb h e v => exact ⟨_, rfl, .ran (.binary _ _ _ _ _ (.inr (.inr rfl)))⟩
  | sbbEbIb h e v => exact ⟨_, rfl, .ran (.binary _ _ _ _ _ (.inr (.inr rfl)))⟩
  | andEbIb h e v => exact ⟨_, rfl, .ran (.binary _ _ _ _ _ (.inr (.inr rfl)))⟩
  | subEbIb h e v => exact ⟨_, rfl, .ran (.binary _ _ _ _ _ (.inr (.inr rfl)))⟩
  | xorEbIb h e v => exact ⟨_, rfl, .ran (.binary _ _ _ _ _ (.inr (.inr rfl)))⟩
  | cmpEbIb h e v => exact ⟨_, rfl, .ran (.binary _ _ _ _ _ (.inr (.inr rfl)))⟩
  | addEvIz h e v => exact ⟨_, rfl, .ran (.binary _ _ _ _ _ (.inr (.inr rfl)))⟩
  | orEvIz h e v => exact ⟨_, rfl, .ran (.binary _ _ _ _ _ (.inr (.inr rfl)))⟩
  | adcEvIz h e v => exact ⟨_, rfl, .ran (.binary _ _ _ _ _ (.inr (.inr rfl)))⟩
  | sbbEvIz h e v => exact ⟨_, rfl, .ran (.binary _ _ _ _ _ (.inr (.inr rfl)))⟩
  | andEvIz h e v => exact ⟨_, rfl, .ran (.binary _ _ _ _ _ (.inr (.inr rfl)))⟩
  | subEvIz h e v => exact ⟨_, rfl, .ran (.binary _ _ _ _ _ (.inr (.inr rfl)))⟩
  | xorEvIz h e v => exact ⟨_, rfl, .ran (.binary _ _ _ _ _ (.inr (.inr rfl)))⟩
  | cmpEvIz h e v => exact ⟨_, rfl, .ran (.binary _ _ _ _ _ (.inr (.inr rfl)))⟩
  | addEvIb h e v => exact ⟨_, rfl, .ran (.binary _ _ _ _ _ (.inr (.inr rfl)))⟩
  | orEvIb h e v => exact ⟨_, rfl, .ran (.binary _ _ _ _ _ (.inr (.inr rfl)))⟩
  | adcEvIb h e v => exact ⟨_, rfl, .ran (.binary _ _ _ _ _ (.inr (.inr rfl)))⟩
  | sbbEvIb h e v => exact ⟨_, rfl, .ran (.binary _ _ _ _ _ (.inr (.inr rfl)))⟩
  | andEvIb h e v => exact ⟨_, rfl, .ran (.binary _ _ _ _ _ (.inr (.inr rfl)))⟩
  | subEvIb h e v => exact ⟨_, rfl, .ran (.binary _ _ _ _ _ (.inr (.inr rfl)))⟩
  | xorEvIb h e v => exact ⟨_, rfl, .ran (.binary _ _ _ _ _ (.inr (.inr rfl)))⟩
  | cmpEvIb h e v => exact ⟨_, rfl, .ran (.binary _ _ _ _ _ (.inr (.inr rfl)))⟩
  | addEbIb82 h a =>
    cases a with
    | twin x => exact ⟨_, rfl, .ran (.binary _ _ _ _ _ (.inr (.inr rfl)))⟩
    | undefinedOpcode m => exact ⟨_, rfl, .raised .undefinedOpcode⟩
  | orEbIb82 h a =>
    cases a with
    | twin x => exact ⟨_, rfl, .ran (.binary _ _ _ _ _ (.inr (.inr rfl)))⟩
    | undefinedOpcode m => exact ⟨_, rfl, .raised .undefinedOpcode⟩
  | adcEbIb82 h a =>
    cases a with
    | twin x => exact ⟨_, rfl, .ran (.binary _ _ _ _ _ (.inr (.inr rfl)))⟩
    | undefinedOpcode m => exact ⟨_, rfl, .raised .undefinedOpcode⟩
  | sbbEbIb82 h a =>
    cases a with
    | twin x => exact ⟨_, rfl, .ran (.binary _ _ _ _ _ (.inr (.inr rfl)))⟩
    | undefinedOpcode m => exact ⟨_, rfl, .raised .undefinedOpcode⟩
  | andEbIb82 h a =>
    cases a with
    | twin x => exact ⟨_, rfl, .ran (.binary _ _ _ _ _ (.inr (.inr rfl)))⟩
    | undefinedOpcode m => exact ⟨_, rfl, .raised .undefinedOpcode⟩
  | subEbIb82 h a =>
    cases a with
    | twin x => exact ⟨_, rfl, .ran (.binary _ _ _ _ _ (.inr (.inr rfl)))⟩
    | undefinedOpcode m => exact ⟨_, rfl, .raised .undefinedOpcode⟩
  | xorEbIb82 h a =>
    cases a with
    | twin x => exact ⟨_, rfl, .ran (.binary _ _ _ _ _ (.inr (.inr rfl)))⟩
    | undefinedOpcode m => exact ⟨_, rfl, .raised .undefinedOpcode⟩
  | cmpEbIb82 h a =>
    cases a with
    | twin x => exact ⟨_, rfl, .ran (.binary _ _ _ _ _ (.inr (.inr rfl)))⟩
    | undefinedOpcode m => exact ⟨_, rfl, .raised .undefinedOpcode⟩
  | testEbGb h r e => exact ⟨_, rfl, .ran (.test _ _ _ _ rfl)⟩
  | testEvGv h r e => exact ⟨_, rfl, .ran (.test _ _ _ _ rfl)⟩
  | testALIb h v => exact ⟨_, rfl, .ran (.test _ _ _ _ rfl)⟩
  | testEAXIz h v => exact ⟨_, rfl, .ran (.test _ _ _ _ rfl)⟩
  | testEbIb h e v => exact ⟨_, rfl, .ran (.test _ _ _ _ rfl)⟩
  | testEbIbSlash1 h a =>
    cases a with
    | twin x => exact ⟨_, rfl, .ran (.test _ _ _ _ rfl)⟩
    | undefinedOpcode m => exact ⟨_, rfl, .raised .undefinedOpcode⟩
  | notEb h e => exact ⟨_, rfl, .ran (.unary _ _ _ _)⟩
  | negEb h e => exact ⟨_, rfl, .ran (.unary _ _ _ _)⟩
  | mulEb h e => exact ⟨_, rfl, .ran (.mul _ _ _)⟩
  | imulEb h e => exact ⟨_, rfl, .ran (.imul _ _ _)⟩
  | divEb h e => exact ⟨_, rfl, s.div_answered _ _ _⟩
  | idivEb h e => exact ⟨_, rfl, s.idiv_answered _ _ _⟩
  | testEvIz h e v => exact ⟨_, rfl, .ran (.test _ _ _ _ rfl)⟩
  | testEvIzSlash1 h a =>
    cases a with
    | twin x => exact ⟨_, rfl, .ran (.test _ _ _ _ rfl)⟩
    | undefinedOpcode m => exact ⟨_, rfl, .raised .undefinedOpcode⟩
  | notEv h e => exact ⟨_, rfl, .ran (.unary _ _ _ _)⟩
  | negEv h e => exact ⟨_, rfl, .ran (.unary _ _ _ _)⟩
  | mulEv h e => exact ⟨_, rfl, .ran (.mul _ _ _)⟩
  | imulEv h e => exact ⟨_, rfl, .ran (.imul _ _ _)⟩
  | divEv h e => exact ⟨_, rfl, s.div_answered _ _ _⟩
  | idivEv h e => exact ⟨_, rfl, s.idiv_answered _ _ _⟩
  | incEb h e => exact ⟨_, rfl, .ran (.unary _ _ _ _)⟩
  | decEb h e => exact ⟨_, rfl, .ran (.unary _ _ _ _)⟩
  | incEv h e => exact ⟨_, rfl, .ran (.unary _ _ _ _)⟩
  | decEv h e => exact ⟨_, rfl, .ran (.unary _ _ _ _)⟩
  | undefinedFE2 h m => exact ⟨_, rfl, .raised .undefinedOpcode⟩
  | undefinedFE3 h m => exact ⟨_, rfl, .raised .undefinedOpcode⟩
  | undefinedFE4 h m => exact ⟨_, rfl, .raised .undefinedOpcode⟩
  | undefinedFE5 h m => exact ⟨_, rfl, .raised .undefinedOpcode⟩
  | undefinedFE6 h m => exact ⟨_, rfl, .raised .undefinedOpcode⟩
  | undefinedFE7 h m => exact ⟨_, rfl, .raised .undefinedOpcode⟩
  | undefinedFF7 h m => exact ⟨_, rfl, .raised .undefinedOpcode⟩
  | rolEbIb h e v => exact ⟨_, rfl, .ran (.shift _ _ _ _ _ rfl)⟩
  | rorEbIb h e v => exact ⟨_, rfl, .ran (.shift _ _ _ _ _ rfl)⟩
  | rclEbIb h e v => exact ⟨_, rfl, .ran (.shift _ _ _ _ _ rfl)⟩
  | rcrEbIb h e v => exact ⟨_, rfl, .ran (.shift _ _ _ _ _ rfl)⟩
  | shlEbIb h e v => exact ⟨_, rfl, .ran (.shift _ _ _ _ _ rfl)⟩
  | shrEbIb h e v => exact ⟨_, rfl, .ran (.shift _ _ _ _ _ rfl)⟩
  | shlEbIbSlash6 h a =>
    cases a with
    | twin x => exact ⟨_, rfl, .ran (.shift .shl .byte h x.1 (.imm8 x.2 false) rfl)⟩
    | undefinedOpcode m => exact ⟨_, rfl, .raised .undefinedOpcode⟩
  | sarEbIb h e v => exact ⟨_, rfl, .ran (.shift _ _ _ _ _ rfl)⟩
  | rolEvIb h e v => exact ⟨_, rfl, .ran (.shift _ _ _ _ _ rfl)⟩
  | rorEvIb h e v => exact ⟨_, rfl, .ran (.shift _ _ _ _ _ rfl)⟩
  | rclEvIb h e v => exact ⟨_, rfl, .ran (.shift _ _ _ _ _ rfl)⟩
  | rcrEvIb h e v => exact ⟨_, rfl, .ran (.shift _ _ _ _ _ rfl)⟩
  | shlEvIb h e v => exact ⟨_, rfl, .ran (.shift _ _ _ _ _ rfl)⟩
  | shrEvIb h e v => exact ⟨_, rfl, .ran (.shift _ _ _ _ _ rfl)⟩
  | shlEvIbSlash6 h a =>
    cases a with
    | twin x => exact ⟨_, rfl, .ran (.shift .shl h.opSize.width h x.1 (.imm8 x.2 false) rfl)⟩
    | undefinedOpcode m => exact ⟨_, rfl, .raised .undefinedOpcode⟩
  | sarEvIb h e v => exact ⟨_, rfl, .ran (.shift _ _ _ _ _ rfl)⟩
  | rolEb1 h e => exact ⟨_, rfl, .ran (.shift _ _ _ _ _ rfl)⟩
  | rorEb1 h e => exact ⟨_, rfl, .ran (.shift _ _ _ _ _ rfl)⟩
  | rclEb1 h e => exact ⟨_, rfl, .ran (.shift _ _ _ _ _ rfl)⟩
  | rcrEb1 h e => exact ⟨_, rfl, .ran (.shift _ _ _ _ _ rfl)⟩
  | shlEb1 h e => exact ⟨_, rfl, .ran (.shift _ _ _ _ _ rfl)⟩
  | shrEb1 h e => exact ⟨_, rfl, .ran (.shift _ _ _ _ _ rfl)⟩
  | shlEb1Slash6 h a =>
    cases a with
    | twin x => exact ⟨_, rfl, .ran (.shift .shl .byte h x .one rfl)⟩
    | undefinedOpcode m => exact ⟨_, rfl, .raised .undefinedOpcode⟩
  | sarEb1 h e => exact ⟨_, rfl, .ran (.shift _ _ _ _ _ rfl)⟩
  | rolEv1 h e => exact ⟨_, rfl, .ran (.shift _ _ _ _ _ rfl)⟩
  | rorEv1 h e => exact ⟨_, rfl, .ran (.shift _ _ _ _ _ rfl)⟩
  | rclEv1 h e => exact ⟨_, rfl, .ran (.shift _ _ _ _ _ rfl)⟩
  | rcrEv1 h e => exact ⟨_, rfl, .ran (.shift _ _ _ _ _ rfl)⟩
  | shlEv1 h e => exact ⟨_, rfl, .ran (.shift _ _ _ _ _ rfl)⟩
  | shrEv1 h e => exact ⟨_, rfl, .ran (.shift _ _ _ _ _ rfl)⟩
  | shlEv1Slash6 h a =>
    cases a with
    | twin x => exact ⟨_, rfl, .ran (.shift .shl h.opSize.width h x .one rfl)⟩
    | undefinedOpcode m => exact ⟨_, rfl, .raised .undefinedOpcode⟩
  | sarEv1 h e => exact ⟨_, rfl, .ran (.shift _ _ _ _ _ rfl)⟩
  | rolEbCL h e => exact ⟨_, rfl, .ran (.shift _ _ _ _ _ rfl)⟩
  | rorEbCL h e => exact ⟨_, rfl, .ran (.shift _ _ _ _ _ rfl)⟩
  | rclEbCL h e => exact ⟨_, rfl, .ran (.shift _ _ _ _ _ rfl)⟩
  | rcrEbCL h e => exact ⟨_, rfl, .ran (.shift _ _ _ _ _ rfl)⟩
  | shlEbCL h e => exact ⟨_, rfl, .ran (.shift _ _ _ _ _ rfl)⟩
  | shrEbCL h e => exact ⟨_, rfl, .ran (.shift _ _ _ _ _ rfl)⟩
  | shlEbCLSlash6 h a =>
    cases a with
    | twin x => exact ⟨_, rfl, .ran (.shift .shl .byte h x (.fixed .cx) rfl)⟩
    | undefinedOpcode m => exact ⟨_, rfl, .raised .undefinedOpcode⟩
  | sarEbCL h e => exact ⟨_, rfl, .ran (.shift _ _ _ _ _ rfl)⟩
  | rolEvCL h e => exact ⟨_, rfl, .ran (.shift _ _ _ _ _ rfl)⟩
  | rorEvCL h e => exact ⟨_, rfl, .ran (.shift _ _ _ _ _ rfl)⟩
  | rclEvCL h e => exact ⟨_, rfl, .ran (.shift _ _ _ _ _ rfl)⟩
  | rcrEvCL h e => exact ⟨_, rfl, .ran (.shift _ _ _ _ _ rfl)⟩
  | shlEvCL h e => exact ⟨_, rfl, .ran (.shift _ _ _ _ _ rfl)⟩
  | shrEvCL h e => exact ⟨_, rfl, .ran (.shift _ _ _ _ _ rfl)⟩
  | shlEvCLSlash6 h a =>
    cases a with
    | twin x => exact ⟨_, rfl, .ran (.shift .shl h.opSize.width h x (.fixed .cx) rfl)⟩
    | undefinedOpcode m => exact ⟨_, rfl, .raised .undefinedOpcode⟩
  | sarEvCL h e => exact ⟨_, rfl, .ran (.shift _ _ _ _ _ rfl)⟩
  | imulGvEvIz h r e v => exact ⟨_, rfl, .ran (.imul3 _ _ _ _ _ rfl)⟩
  | imulGvEvIb h r e v => exact ⟨_, rfl, .ran (.imul3 _ _ _ _ _ rfl)⟩
  | imulGvEv h r e => exact ⟨_, rfl, .ran (.imul2 _ _ _ _)⟩
  | joJb h v => exact ⟨_, rfl, .ran (.jumpShort _ _ _)⟩
  | jnoJb h v => exact ⟨_, rfl, .ran (.jumpShort _ _ _)⟩
  | jbJb h v => exact ⟨_, rfl, .ran (.jumpShort _ _ _)⟩
  | jaeJb h v => exact ⟨_, rfl, .ran (.jumpShort _ _ _)⟩
  | jeJb h v => exact ⟨_, rfl, .ran (.jumpShort _ _ _)⟩
  | jneJb h v => exact ⟨_, rfl, .ran (.jumpShort _ _ _)⟩
  | jbeJb h v => exact ⟨_, rfl, .ran (.jumpShort _ _ _)⟩
  | jaJb h v => exact ⟨_, rfl, .ran (.jumpShort _ _ _)⟩
  | jsJb h v => exact ⟨_, rfl, .ran (.jumpShort _ _ _)⟩
  | jnsJb h v => exact ⟨_, rfl, .ran (.jumpShort _ _ _)⟩
  | jpJb h v => exact ⟨_, rfl, .ran (.jumpShort _ _ _)⟩
  | jnpJb h v => exact ⟨_, rfl, .ran (.jumpShort _ _ _)⟩
  | jlJb h v => exact ⟨_, rfl, .ran (.jumpShort _ _ _)⟩
  | jgeJb h v => exact ⟨_, rfl, .ran (.jumpShort _ _ _)⟩
  | jleJb h v => exact ⟨_, rfl, .ran (.jumpShort _ _ _)⟩
  | jgJb h v => exact ⟨_, rfl, .ran (.jumpShort _ _ _)⟩
  | joJz h v => exact ⟨_, rfl, .ran (.jumpNear _ _ _)⟩
  | jnoJz h v => exact ⟨_, rfl, .ran (.jumpNear _ _ _)⟩
  | jbJz h v => exact ⟨_, rfl, .ran (.jumpNear _ _ _)⟩
  | jaeJz h v => exact ⟨_, rfl, .ran (.jumpNear _ _ _)⟩
  | jeJz h v => exact ⟨_, rfl, .ran (.jumpNear _ _ _)⟩
  | jneJz h v => exact ⟨_, rfl, .ran (.jumpNear _ _ _)⟩
  | jbeJz h v => exact ⟨_, rfl, .ran (.jumpNear _ _ _)⟩
  | jaJz h v => exact ⟨_, rfl, .ran (.jumpNear _ _ _)⟩
  | jsJz h v => exact ⟨_, rfl, .ran (.jumpNear _ _ _)⟩
  | jnsJz h v => exact ⟨_, rfl, .ran (.jumpNear _ _ _)⟩
  | jpJz h v => exact ⟨_, rfl, .ran (.jumpNear _ _ _)⟩
  | jnpJz h v => exact ⟨_, rfl, .ran (.jumpNear _ _ _)⟩
  | jlJz h v => exact ⟨_, rfl, .ran (.jumpNear _ _ _)⟩
  | jgeJz h v => exact ⟨_, rfl, .ran (.jumpNear _ _ _)⟩
  | jleJz h v => exact ⟨_, rfl, .ran (.jumpNear _ _ _)⟩
  | jgJz h v => exact ⟨_, rfl, .ran (.jumpNear _ _ _)⟩
  | setoEb h r e => exact ⟨_, rfl, .ran (.setcc _ _ _)⟩
  | setnoEb h r e => exact ⟨_, rfl, .ran (.setcc _ _ _)⟩
  | setbEb h r e => exact ⟨_, rfl, .ran (.setcc _ _ _)⟩
  | setaeEb h r e => exact ⟨_, rfl, .ran (.setcc _ _ _)⟩
  | seteEb h r e => exact ⟨_, rfl, .ran (.setcc _ _ _)⟩
  | setneEb h r e => exact ⟨_, rfl, .ran (.setcc _ _ _)⟩
  | setbeEb h r e => exact ⟨_, rfl, .ran (.setcc _ _ _)⟩
  | setaEb h r e => exact ⟨_, rfl, .ran (.setcc _ _ _)⟩
  | setsEb h r e => exact ⟨_, rfl, .ran (.setcc _ _ _)⟩
  | setnsEb h r e => exact ⟨_, rfl, .ran (.setcc _ _ _)⟩
  | setpEb h r e => exact ⟨_, rfl, .ran (.setcc _ _ _)⟩
  | setnpEb h r e => exact ⟨_, rfl, .ran (.setcc _ _ _)⟩
  | setlEb h r e => exact ⟨_, rfl, .ran (.setcc _ _ _)⟩
  | setgeEb h r e => exact ⟨_, rfl, .ran (.setcc _ _ _)⟩
  | setleEb h r e => exact ⟨_, rfl, .ran (.setcc _ _ _)⟩
  | setgEb h r e => exact ⟨_, rfl, .ran (.setcc _ _ _)⟩
  | clc h => exact ⟨_, rfl, .ran (.clc _)⟩
  | stc h => exact ⟨_, rfl, .ran (.stc _)⟩
  | cmc h => exact ⟨_, rfl, .ran (.cmc _)⟩
  | lahf h => exact ⟨_, rfl, .ran (.lahf _)⟩
  | sahf h => exact ⟨_, rfl, .ran (.sahf _)⟩
  | inALIb h v => exact ⟨_, rfl, .ran (.portIn _ _ _ rfl)⟩
  | inEAXIb h v => exact ⟨_, rfl, .ran (.portIn _ _ _ rfl)⟩
  | inALDX h => exact ⟨_, rfl, .ran (.portIn _ _ _ rfl)⟩
  | inEAXDX h => exact ⟨_, rfl, .ran (.portIn _ _ _ rfl)⟩
  | outIbAL h v => exact ⟨_, rfl, .ran (.portOut _ _ _ rfl)⟩
  | outIbEAX h v => exact ⟨_, rfl, .ran (.portOut _ _ _ rfl)⟩
  | outDXAL h => exact ⟨_, rfl, .ran (.portOut _ _ _ rfl)⟩
  | outDXEAX h => exact ⟨_, rfl, .ran (.portOut _ _ _ rfl)⟩
  | int3 h => exact ⟨_, rfl, .raised (.int3 _)⟩
  | intIb h v => exact ⟨_, rfl, .raised (.intN _ _)⟩
  | into h => exact ⟨_, rfl, s.into_answered _⟩

/-- What one step can do: nothing where the run is over; the end of the run at `stopIP`; an external interrupt delivered; the
instruction decoded, after its fetches; the refusal or decode fault of the decoder. -/
theorem step_cases {s : State} {x : Host.Outcome State Fault Refusal} (hx : step s = x) :
    (s.status ≠ .running ∧ x = .fault .runOver) ∨
      (s.status = .running ∧ s.eip = s.params.stopIP ∧ x = .next (s.setStatus .finished)) ∨
      (s.status = .running ∧ s.eip ≠ s.params.stopIP ∧ ∃ v, s.offered = some v ∧
        x = .next (s.takeOffer.deliver (.external v))) ∨
      (s.status = .running ∧ s.eip ≠ s.params.stopIP ∧ s.offered = none ∧
        ((∃ i, (decode s.params.mode s.window).outcome = .instr i ∧
            x = exec i (s.takeOffer.afterFetch (decode s.params.mode s.window).len)) ∨
          (∃ r, (decode s.params.mode s.window).outcome = .refuse r ∧
            x = .next ((s.takeOffer.afterFetch (decode s.params.mode s.window).len).refuse r)) ∨
          (∃ r, (decode s.params.mode s.window).outcome = .fatal r ∧
            x = .next ((s.takeOffer.afterFetch (decode s.params.mode s.window).len).decodeFault r)))) := by
  subst hx
  cases hs : s.status with
  | running =>
    have hstep : step s = s.stepRunning := by simp only [step, hs]
    rw [hstep]
    unfold State.stepRunning
    by_cases he : s.eip = s.params.stopIP
    · exact .inr (.inl ⟨rfl, he, by simp [he]⟩)
    · cases hp : s.offered with
      | some v => exact .inr (.inr (.inl ⟨rfl, he, v, rfl, by simp [he]⟩))
      | none =>
        refine .inr (.inr (.inr ⟨rfl, he, rfl, ?_⟩))
        cases ho : (decode s.params.mode s.window).outcome with
        | instr i => exact .inl ⟨i, rfl, by simp [he, ho]⟩
        | refuse r => exact .inr (.inl ⟨r, rfl, by simp [he, ho]⟩)
        | fatal r => exact .inr (.inr ⟨r, rfl, by simp [he, ho]⟩)
  | finished => exact .inl ⟨by simp, by simp only [step, hs]⟩
  | trapped e => exact .inl ⟨by simp, by simp only [step, hs]⟩
  | faulted e => exact .inl ⟨by simp, by simp only [step, hs]⟩
  | refused r => exact .inl ⟨by simp, by simp only [step, hs]⟩
  | fatal r => exact .inl ⟨by simp, by simp only [step, hs]⟩

/-- What one step that answers a next state can do, with the instruction's part as what `exec` answers. -/
theorem step_next {s t : State} (h : step s = .next t) :
    s.status = .running ∧
      ((s.eip = s.params.stopIP ∧ t = s.setStatus .finished) ∨
        (s.eip ≠ s.params.stopIP ∧
          ((∃ v, s.offered = some v ∧ t = s.takeOffer.deliver (.external v)) ∨
            (∃ n, Ran (s.takeOffer.afterFetch n) t) ∨
            (∃ n u e, Raised (s.takeOffer.afterFetch n) u e ∧ t = u.deliver e) ∨
            (∃ n r, t = (s.takeOffer.afterFetch n).refuse r) ∨
            (∃ n r, t = (s.takeOffer.afterFetch n).decodeFault r)))) := by
  obtain ⟨-, hx⟩ | ⟨hs, he, hx⟩ | ⟨hs, he, v, hv, hx⟩ | ⟨hs, he, -, hd⟩ := step_cases h
  · cases hx
  · cases hx
    exact ⟨hs, .inl ⟨he, rfl⟩⟩
  · cases hx
    exact ⟨hs, .inr ⟨he, .inl ⟨v, hv, rfl⟩⟩⟩
  · obtain ⟨i, -, hx⟩ | ⟨r, -, hx⟩ | ⟨r, -, hx⟩ := hd
    · obtain ⟨u, hu, hr⟩ := exec_answered i (s.takeOffer.afterFetch (decode s.params.mode s.window).len)
      rw [hu] at hx
      cases hx
      cases hr with
      | ran hr => exact ⟨hs, .inr ⟨he, .inr (.inl ⟨_, hr⟩)⟩⟩
      | raised hr => exact ⟨hs, .inr ⟨he, .inr (.inr (.inl ⟨_, _, _, hr, rfl⟩))⟩⟩
    · cases hx
      exact ⟨hs, .inr ⟨he, .inr (.inr (.inr (.inl ⟨_, r, rfl⟩)))⟩⟩
    · cases hx
      exact ⟨hs, .inr ⟨he, .inr (.inr (.inr (.inr ⟨_, r, rfl⟩)))⟩⟩

end Sys2Proof.Machine
end

