-- ==== Sys2Proof/Laws/Families.lean ====
section
/-!
SUPPORT. One lemma per shared operation of the multiply, divide, SETcc and port families that says everything the
operation does.
-/
namespace Sys2Proof.Machine

/-- A load of the operands, a write of a double-width value, an update of the flags and the advance: what MUL, IMUL
with one operand, and a DIV or IDIV that completes do (43_muldiv R710, R711, R720, R721). -/
theorem State.pair_spec (w : Width) (h : Head) (e : EOperand) (ds rs : List (Width × Reg)) (hi lo : BitVec w.bits)
    (act : FlagActions) (s : State) :
    Completes h s ((((s.loadImplicit w h e ds rs).2.writePair w hi lo).writeFlags act).advance h.len) ∧
      ((((s.loadImplicit w h e ds rs).2.writePair w hi lo).writeFlags act).advance h.len).gpr =
        (s.gpr.write w .ax lo).write w (highHalf w) hi ∧
      ((((s.loadImplicit w h e ds rs).2.writePair w hi lo).writeFlags act).advance h.len).mem = s.mem ∧
      ((((s.loadImplicit w h e ds rs).2.writePair w hi lo).writeFlags act).advance h.len).busLog =
        s.readCalls w (s.eLoc h e) ++ s.busLog ∧
      ∃ u : State, (∀ f, u.flag f = s.flag f) ∧
        ((((s.loadImplicit w h e ds rs).2.writePair w hi lo).writeFlags act).advance h.len).flags =
          (u.writeFlags act).flags := by
  have hA : Same s (s.loadImplicit w h e ds rs).2 := Same.loadImplicit s w h e ds rs
  have hcalls := State.loadImplicit_busLog s w h e ds rs
  generalize (s.loadImplicit w h e ds rs).2 = u at hA hcalls
  refine ⟨?_, ?_, ?_, ?_, u.writePair w hi lo, ?_, rfl⟩
  · exact Completes.of (t := u) hA (by simp [State.ipwrap, State.writePair]) (by simp [State.writePair])
      (by simp [State.writePair]) (by simp [State.writePair]) (by simp [State.writePair]) (by simp [State.writePair])
      (by simp [State.writePair])
  · simp [State.writePair, hA.gpr]
  · simp [State.writePair, hA.mem]
  · simp [State.writePair, hcalls]
  · exact State.flag_congr (by simp [State.writePair, hA.flags])

/-- The registers that DIV, IDIV, MUL and IMUL read beside their explicit operand are those before the instruction
(43_muldiv R701). -/
theorem State.loadImplicit_readReg (w : Width) (h : Head) (e : EOperand) (ds rs : List (Width × Reg)) (s : State)
    (x : Width) (r : Reg) : (s.loadImplicit w h e ds rs).2.readReg x r = s.readReg x r := by
  simp [State.readReg]

theorem State.loadImplicit_readPair (w : Width) (h : Head) (e : EOperand) (ds rs : List (Width × Reg)) (s : State) :
    (s.loadImplicit w h e ds rs).2.readPair w = s.readPair w := by
  simp only [State.readPair, State.loadImplicit_readReg]

/-- MUL from the values of its operands before the instruction (43_muldiv R710). -/
theorem State.mul_eq (w : Width) (h : Head) (e : EOperand) (s : State) :
    s.mul w h e =
      let a := s.readReg w .ax
      let b := s.locValue w (s.eLoc h e)
      let p := BitVec.ofNat (w.bits + w.bits) (a.toNat * b.toNat)
      (((s.loadImplicit w h e (productRegs w) [(w, .ax)]).2.writePair w (highOf w p) (lowOf w p)).writeFlags
        (mulActions (.mul w a b))).advance h.len := by
  simp only [State.mul, State.loadImplicit_fst, State.loadImplicit_readReg]

/-- IMUL with one operand from the values of its operands before the instruction (43_muldiv R711). -/
theorem State.imul_eq (w : Width) (h : Head) (e : EOperand) (s : State) :
    s.imul w h e =
      let a := s.readReg w .ax
      let b := s.locValue w (s.eLoc h e)
      let p := BitVec.ofInt (w.bits + w.bits) (a.toInt * b.toInt)
      (((s.loadImplicit w h e (productRegs w) [(w, .ax)]).2.writePair w (highOf w p) (lowOf w p)).writeFlags
        (mulActions (.imul w a b))).advance h.len := by
  simp only [State.imul, State.loadImplicit_fst, State.loadImplicit_readReg]

/-- DIV from the values of its operands before the instruction (43_muldiv R720). -/
theorem State.div_eq (w : Width) (h : Head) (e : EOperand) (s : State) :
    s.div w h e =
      (s.loadImplicit w h e (quotientRegs w) (productRegs w)).2.finishDivide w h
        (divide w (s.readPair w) (s.locValue w (s.eLoc h e))) := by
  simp only [State.div, State.loadImplicit_fst, State.loadImplicit_readPair]

/-- IDIV from the values of its operands before the instruction (43_muldiv R721). -/
theorem State.idiv_eq (w : Width) (h : Head) (e : EOperand) (s : State) :
    s.idiv w h e =
      (s.loadImplicit w h e (quotientRegs w) (productRegs w)).2.finishDivide w h
        (divideSigned w (s.readPair w) (s.locValue w (s.eLoc h e))) := by
  simp only [State.idiv, State.loadImplicit_fst, State.loadImplicit_readPair]

/-- What IMUL with two operands does (43_muldiv R712). -/
theorem State.imul2_spec (w : Width) (h : Head) (r : Reg) (e : EOperand) (s : State) :
    Completes h s (s.imul2 w h r e) ∧
      Stored w (.reg r)
        (BitVec.ofInt w.bits ((s.readReg w r).toInt * (s.locValue w (s.eLoc h e)).toInt)) s (s.imul2 w h r e) ∧
      (s.imul2 w h r e).busLog = s.readCalls w (s.eLoc h e) ++ s.busLog ∧
      ∃ u : State, (∀ f, u.flag f = s.flag f) ∧
        (s.imul2 w h r e).flags =
          (u.writeFlags (mulActions (.imul23 w (s.readReg w r) (s.locValue w (s.eLoc h e))))).flags := by
  have hA : Same s (s.loadAddress w h (.register r)).2 := Same.loadAddress s w h _
  have hB : Same s ((s.loadAddress w h (.register r)).2.loadValue w h (.memory e)).2 :=
    hA.trans (Same.loadValue _ w h _)
  have ha : ((s.loadAddress w h (.register r)).2.loadLoc w (.reg r)) =
      (s.readReg w r, (s.loadAddress w h (.register r)).2) := by
    simp only [State.loadLoc, State.readReg, hA.gpr]
  have hb : (s.loadAddress w h (.register r)).2.operandValue w h (.memory e) = s.locValue w (s.eLoc h e) :=
    State.operandValue_congr hA.gpr hA.seg hA.mem hA.params (by simp) w h
  have hcalls : ((s.loadAddress w h (.register r)).2.loadValue w h (.memory e)).2.busLog =
      s.readCalls w (s.eLoc h e) ++ s.busLog := by
    rw [State.loadValue_busLog, State.sourceCalls_congr hA.gpr hA.seg hA.mem hA.params (by simp)]
    simp [State.sourceCalls]
  have hloc : (s.loadAddress w h (.register r)).1 = .reg r := rfl
  simp only [State.imul2, hloc, ha, State.loadValue_fst, hb]
  generalize ((s.loadAddress w h (.register r)).2.loadValue w h (.memory e)).2 = u at hB hcalls
  generalize BitVec.ofInt w.bits ((s.readReg w r).toInt * (s.locValue w (s.eLoc h e)).toInt) = v
  refine ⟨?_, ?_, ?_, u.storeLoc w (.reg r) v, ?_, rfl⟩
  · exact Completes.of (t := u) hB (by simp [State.ipwrap]) (by simp) (by simp) (by simp) (by simp) (by simp)
      (by simp)
  · exact (State.storeLoc_stored u w (.reg r) v).congr hB.gpr.symm hB.mem.symm hB.params.symm (by simp) (by simp)
  · simp [hcalls, writeCalls]
  · intro f
    rw [State.flag_congr (State.storeLoc_flags u w _ v) f, State.flag_congr hB.flags]

/-- What IMUL with three operands does (43_muldiv R713). -/
theorem State.imul3_spec (w : Width) (h : Head) (r : Reg) (e : EOperand) (x : Operand) (s : State)
    (hx : x.isRm = false) :
    Completes h s (s.imul3 w h r e x) ∧
      Stored w (.reg r)
        (BitVec.ofInt w.bits ((s.locValue w (s.eLoc h e)).toInt * (s.operandValue w h x).toInt)) s
        (s.imul3 w h r e x) ∧
      (s.imul3 w h r e x).busLog = s.readCalls w (s.eLoc h e) ++ s.busLog ∧
      ∃ u : State, (∀ f, u.flag f = s.flag f) ∧
        (s.imul3 w h r e x).flags =
          (u.writeFlags (mulActions (.imul23 w (s.locValue w (s.eLoc h e)) (s.operandValue w h x)))).flags := by
  have hA : Same s (s.loadAddress w h (.register r)).2 := Same.loadAddress s w h _
  have hB : Same s ((s.loadAddress w h (.register r)).2.loadValue w h (.memory e)).2 :=
    hA.trans (Same.loadValue _ w h _)
  have hC : Same s (((s.loadAddress w h (.register r)).2.loadValue w h (.memory e)).2.loadValue w h x).2 :=
    hB.trans (Same.loadValue _ w h _)
  have hb : (s.loadAddress w h (.register r)).2.operandValue w h (.memory e) = s.locValue w (s.eLoc h e) :=
    State.operandValue_congr hA.gpr hA.seg hA.mem hA.params (by simp) w h
  have hv : ((s.loadAddress w h (.register r)).2.loadValue w h (.memory e)).2.operandValue w h x =
      s.operandValue w h x :=
    State.operandValue_congr hB.gpr hB.seg hB.mem hB.params (by simp [hx]) w h
  have hcalls : (((s.loadAddress w h (.register r)).2.loadValue w h (.memory e)).2.loadValue w h x).2.busLog =
      s.readCalls w (s.eLoc h e) ++ s.busLog := by
    have : ∀ t : State, t.sourceCalls w h x = [] := by
      intro t; cases x <;> first | rfl | cases hx
    rw [State.loadValue_busLog, this, State.loadValue_busLog,
      State.sourceCalls_congr hA.gpr hA.seg hA.mem hA.params (by simp)]
    simp [State.sourceCalls]
  have hloc : (s.loadAddress w h (.register r)).1 = .reg r := rfl
  simp only [State.imul3, hloc, State.loadValue_fst, hb, hv]
  generalize (((s.loadAddress w h (.register r)).2.loadValue w h (.memory e)).2.loadValue w h x).2 = u at hC hcalls
  generalize BitVec.ofInt w.bits ((s.locValue w (s.eLoc h e)).toInt * (s.operandValue w h x).toInt) = v
  refine ⟨?_, ?_, ?_, u.storeLoc w (.reg r) v, ?_, rfl⟩
  · exact Completes.of (t := u) hC (by simp [State.ipwrap]) (by simp) (by simp) (by simp) (by simp) (by simp)
      (by simp)
  · exact (State.storeLoc_stored u w (.reg r) v).congr hC.gpr.symm hC.mem.symm hC.params.symm (by simp) (by simp)
  · simp [hcalls, writeCalls]
  · intro f
    rw [State.flag_congr (State.storeLoc_flags u w _ v) f, State.flag_congr hC.flags]

/-- What DIV and IDIV have done where they raise `#DE` (43_muldiv R722): loaded their operands. -/
theorem State.loadImplicit_untouched (w : Width) (h : Head) (e : EOperand) (ds rs : List (Width × Reg)) (s : State) :
    Untouched s (s.loadImplicit w h e ds rs).2 :=
  have hA := Same.loadImplicit s w h e ds rs
  ⟨hA.gpr, hA.eip, hA.flags, hA.mem, hA.seg, hA.flagsOther, hA.params, hA.pending⟩

/-- What SETcc does (45_flag_consumers R922). -/
theorem State.setcc_spec (c : Cond) (h : Head) (e : EOperand) (s : State) :
    Completes h s (s.setcc c h e) ∧ Stored .byte (s.eLoc h e) (condByte (s.condition c)) s (s.setcc c h e) ∧
      FlagsKept s (s.setcc c h e) ∧
      (s.setcc c h e).busLog = writeCalls .byte (s.eLoc h e) (condByte (s.condition c)) ++ s.busLog := by
  have hA : Same s (s.loadAddress .byte h (.memory e)).2 := Same.loadAddress s .byte h _
  have hcond : (s.loadAddress .byte h (.memory e)).2.condition c = s.condition c := by
    have hf := State.flag_congr hA.flags
    cases c <;> simp only [State.condition, hf]
  have hcalls : (s.loadAddress .byte h (.memory e)).2.busLog = s.busLog := by simp
  have hloc : (s.loadAddress .byte h (.memory e)).1 = s.eLoc h e := rfl
  simp only [State.setcc, hloc, State.readCond_fst, hcond]
  generalize (s.loadAddress .byte h (.memory e)).2 = u at hA hcalls
  generalize condByte (s.condition c) = v
  refine ⟨?_, ?_, ?_, ?_⟩
  · exact Completes.of (t := u) hA (by simp [State.ipwrap]) (by simp) (by simp) (by simp) (by simp) (by simp)
      (by simp)
  · exact (State.storeLoc_stored (u.readCond c).2 .byte (s.eLoc h e) v).congr (by simp [hA.gpr]) (by simp [hA.mem])
      (by simp [hA.params]) (by simp) (by simp)
  · intro f
    rw [State.flag_congr (by simp : _ = (u.readCond c).2.flags) f, State.flag_readCond, State.flag_congr hA.flags]
  · simp [hcalls]

/-- What IN of 8 or 16 bits does (46_io_interrupt R1002). -/
theorem State.portIn_spec (w : Width) (h : Head) (port : Operand) (s : State) (hw : w ≠ .dword)
    (hp : port.isRm = false) :
    ∃ v, Completes h s (s.portIn w h port) ∧ (s.portIn w h port).gpr = s.gpr.write w .ax v ∧
      (s.portIn w h port).mem = s.mem ∧ (s.portIn w h port).flags = s.flags ∧
      (s.portIn w h port).busLog = .portRead (s.operandValue .word h port) w (v.setWidth 32) :: s.busLog := by
  have hA : Same s (s.loadAddress w h (.fixed .ax)).2 := Same.loadAddress s w h _
  have hB : Same s ((s.loadAddress w h (.fixed .ax)).2.loadValue .word h port).2 :=
    hA.trans (Same.loadValue _ _ h _)
  have hv : (s.loadAddress w h (.fixed .ax)).2.operandValue .word h port = s.operandValue .word h port :=
    State.operandValue_congr hA.gpr hA.seg hA.mem hA.params (by simp [hp]) _ h
  have hcalls : ((s.loadAddress w h (.fixed .ax)).2.loadValue .word h port).2.busLog = s.busLog := by
    have : ∀ t : State, t.sourceCalls .word h port = [] := by
      intro t; cases port <;> first | rfl | cases hp
    simp [this]
  have hloc : (s.loadAddress w h (.fixed .ax)).1 = .reg .ax := rfl
  simp only [State.portIn, hw, if_false, hloc, State.loadValue_fst, hv]
  generalize ((s.loadAddress w h (.fixed .ax)).2.loadValue .word h port).2 = u at hB hcalls
  refine ⟨u.portValue w, ?_, ?_, ?_, ?_, ?_⟩
  · exact Completes.of (t := u) hB (by simp [State.ipwrap]) (by simp) (by simp) (by simp) (by simp) (by simp)
      (by simp)
  · simp [State.storeLoc, State.portRead, hB.gpr]
  · simp [State.storeLoc, hB.mem]
  · simp [hB.flags]
  · simp [hcalls, writeCalls]

/-- What OUT of 8 or 16 bits does (46_io_interrupt R1003). -/
theorem State.portOut_spec (w : Width) (h : Head) (port : Operand) (s : State) (hw : w ≠ .dword)
    (hp : port.isRm = false) :
    Completes h s (s.portOut w h port) ∧ NothingStored s (s.portOut w h port) ∧
      (s.portOut w h port).flags = s.flags ∧
      (s.portOut w h port).busLog =
        .portWrite (s.operandValue .word h port) w ((s.readReg w .ax).setWidth 32) :: s.busLog := by
  have hA : Same s (s.loadValue .word h port).2 := Same.loadValue s _ h _
  have hB : Same s ((s.loadValue .word h port).2.loadValue w h (.fixed .ax)).2 := hA.trans (Same.loadValue _ _ h _)
  have hv : (s.loadValue .word h port).2.operandValue w h (.fixed .ax) = s.readReg w .ax := by
    simp only [State.operandValue, State.readReg, hA.gpr]
  have hcalls : ((s.loadValue .word h port).2.loadValue w h (.fixed .ax)).2.busLog = s.busLog := by
    have : ∀ t : State, t.sourceCalls .word h port = [] := by
      intro t; cases port <;> first | rfl | cases hp
    rw [State.loadValue_busLog, State.loadValue_busLog, this]
    rfl
  simp only [State.portOut, hw, if_false, State.loadValue_fst, hv]
  generalize ((s.loadValue .word h port).2.loadValue w h (.fixed .ax)).2 = u at hB hcalls
  refine ⟨?_, ⟨?_, fun a => State.byteAt_congr ?_ a⟩, ?_, ?_⟩
  · exact Completes.of (t := u) hB (by simp [State.ipwrap]) (by simp) (by simp) (by simp) (by simp) (by simp)
      (by simp)
  · simp [hB.gpr]
  · simp [hB.mem]
  · simp [hB.flags]
  · simp [hcalls]

end Sys2Proof.Machine
end

