-- ==== Sys2Proof/Laws/PerInstr.lean ====
section
/-!
SUPPORT. A fact of every instruction as syntax: its encoding goes on, after the prefixes, with a byte that is no
prefix (30_encoding R305, R308), so that the prefixes of an encoding end where they should.
-/
namespace Sys2Proof

/-- The first opcode byte exists and is no prefix byte (30_encoding R305, R308). -/
def Laws.LeadingBytes.Statement (i : Instr) : Prop :=
  ∃ b rest, i.opcode.bytes = b :: rest ∧ prefixByte b = .opcode

theorem Laws.LeadingBytes.addEbGb (h : Head) (r : Reg) (e : EOperand) :
    Laws.LeadingBytes.Statement (.addEbGb h r e) := ⟨_, _, rfl, rfl⟩
theorem Laws.LeadingBytes.addEvGv (h : Head) (r : Reg) (e : EOperand) :
    Laws.LeadingBytes.Statement (.addEvGv h r e) := ⟨_, _, rfl, rfl⟩
theorem Laws.LeadingBytes.addGbEb (h : Head) (r : Reg) (e : EOperand) :
    Laws.LeadingBytes.Statement (.addGbEb h r e) := ⟨_, _, rfl, rfl⟩
theorem Laws.LeadingBytes.addGvEv (h : Head) (r : Reg) (e : EOperand) :
    Laws.LeadingBytes.Statement (.addGvEv h r e) := ⟨_, _, rfl, rfl⟩
theorem Laws.LeadingBytes.addALIb (h : Head) (v : BitVec 8) :
    Laws.LeadingBytes.Statement (.addALIb h v) := ⟨_, _, rfl, rfl⟩
theorem Laws.LeadingBytes.addEAXIz (h : Head) (v : BitVec 32) :
    Laws.LeadingBytes.Statement (.addEAXIz h v) := ⟨_, _, rfl, rfl⟩
theorem Laws.LeadingBytes.orEbGb (h : Head) (r : Reg) (e : EOperand) :
    Laws.LeadingBytes.Statement (.orEbGb h r e) := ⟨_, _, rfl, rfl⟩
theorem Laws.LeadingBytes.orEvGv (h : Head) (r : Reg) (e : EOperand) :
    Laws.LeadingBytes.Statement (.orEvGv h r e) := ⟨_, _, rfl, rfl⟩
theorem Laws.LeadingBytes.orGbEb (h : Head) (r : Reg) (e : EOperand) :
    Laws.LeadingBytes.Statement (.orGbEb h r e) := ⟨_, _, rfl, rfl⟩
theorem Laws.LeadingBytes.orGvEv (h : Head) (r : Reg) (e : EOperand) :
    Laws.LeadingBytes.Statement (.orGvEv h r e) := ⟨_, _, rfl, rfl⟩
theorem Laws.LeadingBytes.orALIb (h : Head) (v : BitVec 8) :
    Laws.LeadingBytes.Statement (.orALIb h v) := ⟨_, _, rfl, rfl⟩
theorem Laws.LeadingBytes.orEAXIz (h : Head) (v : BitVec 32) :
    Laws.LeadingBytes.Statement (.orEAXIz h v) := ⟨_, _, rfl, rfl⟩
theorem Laws.LeadingBytes.adcEbGb (h : Head) (r : Reg) (e : EOperand) :
    Laws.LeadingBytes.Statement (.adcEbGb h r e) := ⟨_, _, rfl, rfl⟩
theorem Laws.LeadingBytes.adcEvGv (h : Head) (r : Reg) (e : EOperand) :
    Laws.LeadingBytes.Statement (.adcEvGv h r e) := ⟨_, _, rfl, rfl⟩
theorem Laws.LeadingBytes.adcGbEb (h : Head) (r : Reg) (e : EOperand) :
    Laws.LeadingBytes.Statement (.adcGbEb h r e) := ⟨_, _, rfl, rfl⟩
theorem Laws.LeadingBytes.adcGvEv (h : Head) (r : Reg) (e : EOperand) :
    Laws.LeadingBytes.Statement (.adcGvEv h r e) := ⟨_, _, rfl, rfl⟩
theorem Laws.LeadingBytes.adcALIb (h : Head) (v : BitVec 8) :
    Laws.LeadingBytes.Statement (.adcALIb h v) := ⟨_, _, rfl, rfl⟩
theorem Laws.LeadingBytes.adcEAXIz (h : Head) (v : BitVec 32) :
    Laws.LeadingBytes.Statement (.adcEAXIz h v) := ⟨_, _, rfl, rfl⟩
theorem Laws.LeadingBytes.sbbEbGb (h : Head) (r : Reg) (e : EOperand) :
    Laws.LeadingBytes.Statement (.sbbEbGb h r e) := ⟨_, _, rfl, rfl⟩
theorem Laws.LeadingBytes.sbbEvGv (h : Head) (r : Reg) (e : EOperand) :
    Laws.LeadingBytes.Statement (.sbbEvGv h r e) := ⟨_, _, rfl, rfl⟩
theorem Laws.LeadingBytes.sbbGbEb (h : Head) (r : Reg) (e : EOperand) :
    Laws.LeadingBytes.Statement (.sbbGbEb h r e) := ⟨_, _, rfl, rfl⟩
theorem Laws.LeadingBytes.sbbGvEv (h : Head) (r : Reg) (e : EOperand) :
    Laws.LeadingBytes.Statement (.sbbGvEv h r e) := ⟨_, _, rfl, rfl⟩
theorem Laws.LeadingBytes.sbbALIb (h : Head) (v : BitVec 8) :
    Laws.LeadingBytes.Statement (.sbbALIb h v) := ⟨_, _, rfl, rfl⟩
theorem Laws.LeadingBytes.sbbEAXIz (h : Head) (v : BitVec 32) :
    Laws.LeadingBytes.Statement (.sbbEAXIz h v) := ⟨_, _, rfl, rfl⟩
theorem Laws.LeadingBytes.andEbGb (h : Head) (r : Reg) (e : EOperand) :
    Laws.LeadingBytes.Statement (.andEbGb h r e) := ⟨_, _, rfl, rfl⟩
theorem Laws.LeadingBytes.andEvGv (h : Head) (r : Reg) (e : EOperand) :
    Laws.LeadingBytes.Statement (.andEvGv h r e) := ⟨_, _, rfl, rfl⟩
theorem Laws.LeadingBytes.andGbEb (h : Head) (r : Reg) (e : EOperand) :
    Laws.LeadingBytes.Statement (.andGbEb h r e) := ⟨_, _, rfl, rfl⟩
theorem Laws.LeadingBytes.andGvEv (h : Head) (r : Reg) (e : EOperand) :
    Laws.LeadingBytes.Statement (.andGvEv h r e) := ⟨_, _, rfl, rfl⟩
theorem Laws.LeadingBytes.andALIb (h : Head) (v : BitVec 8) :
    Laws.LeadingBytes.Statement (.andALIb h v) := ⟨_, _, rfl, rfl⟩
theorem Laws.LeadingBytes.andEAXIz (h : Head) (v : BitVec 32) :
    Laws.LeadingBytes.Statement (.andEAXIz h v) := ⟨_, _, rfl, rfl⟩
theorem Laws.LeadingBytes.subEbGb (h : Head) (r : Reg) (e : EOperand) :
    Laws.LeadingBytes.Statement (.subEbGb h r e) := ⟨_, _, rfl, rfl⟩
theorem Laws.LeadingBytes.subEvGv (h : Head) (r : Reg) (e : EOperand) :
    Laws.LeadingBytes.Statement (.subEvGv h r e) := ⟨_, _, rfl, rfl⟩
theorem Laws.LeadingBytes.subGbEb (h : Head) (r : Reg) (e : EOperand) :
    Laws.LeadingBytes.Statement (.subGbEb h r e) := ⟨_, _, rfl, rfl⟩
theorem Laws.LeadingBytes.subGvEv (h : Head) (r : Reg) (e : EOperand) :
    Laws.LeadingBytes.Statement (.subGvEv h r e) := ⟨_, _, rfl, rfl⟩
theorem Laws.LeadingBytes.subALIb (h : Head) (v : BitVec 8) :
    Laws.LeadingBytes.Statement (.subALIb h v) := ⟨_, _, rfl, rfl⟩
theorem Laws.LeadingBytes.subEAXIz (h : Head) (v : BitVec 32) :
    Laws.LeadingBytes.Statement (.subEAXIz h v) := ⟨_, _, rfl, rfl⟩
theorem Laws.LeadingBytes.xorEbGb (h : Head) (r : Reg) (e : EOperand) :
    Laws.LeadingBytes.Statement (.xorEbGb h r e) := ⟨_, _, rfl, rfl⟩
theorem Laws.LeadingBytes.xorEvGv (h : Head) (r : Reg) (e : EOperand) :
    Laws.LeadingBytes.Statement (.xorEvGv h r e) := ⟨_, _, rfl, rfl⟩
theorem Laws.LeadingBytes.xorGbEb (h : Head) (r : Reg) (e : EOperand) :
    Laws.LeadingBytes.Statement (.xorGbEb h r e) := ⟨_, _, rfl, rfl⟩
theorem Laws.LeadingBytes.xorGvEv (h : Head) (r : Reg) (e : EOperand) :
    Laws.LeadingBytes.Statement (.xorGvEv h r e) := ⟨_, _, rfl, rfl⟩
theorem Laws.LeadingBytes.xorALIb (h : Head) (v : BitVec 8) :
    Laws.LeadingBytes.Statement (.xorALIb h v) := ⟨_, _, rfl, rfl⟩
theorem Laws.LeadingBytes.xorEAXIz (h : Head) (v : BitVec 32) :
    Laws.LeadingBytes.Statement (.xorEAXIz h v) := ⟨_, _, rfl, rfl⟩
theorem Laws.LeadingBytes.cmpEbGb (h : Head) (r : Reg) (e : EOperand) :
    Laws.LeadingBytes.Statement (.cmpEbGb h r e) := ⟨_, _, rfl, rfl⟩
theorem Laws.LeadingBytes.cmpEvGv (h : Head) (r : Reg) (e : EOperand) :
    Laws.LeadingBytes.Statement (.cmpEvGv h r e) := ⟨_, _, rfl, rfl⟩
theorem Laws.LeadingBytes.cmpGbEb (h : Head) (r : Reg) (e : EOperand) :
    Laws.LeadingBytes.Statement (.cmpGbEb h r e) := ⟨_, _, rfl, rfl⟩
theorem Laws.LeadingBytes.cmpGvEv (h : Head) (r : Reg) (e : EOperand) :
    Laws.LeadingBytes.Statement (.cmpGvEv h r e) := ⟨_, _, rfl, rfl⟩
theorem Laws.LeadingBytes.cmpALIb (h : Head) (v : BitVec 8) :
    Laws.LeadingBytes.Statement (.cmpALIb h v) := ⟨_, _, rfl, rfl⟩
theorem Laws.LeadingBytes.cmpEAXIz (h : Head) (v : BitVec 32) :
    Laws.LeadingBytes.Statement (.cmpEAXIz h v) := ⟨_, _, rfl, rfl⟩
theorem Laws.LeadingBytes.incZv (h : Head) (r : Reg) :
    Laws.LeadingBytes.Statement (.incZv h r) := by cases r <;> exact ⟨_, _, rfl, rfl⟩
theorem Laws.LeadingBytes.decZv (h : Head) (r : Reg) :
    Laws.LeadingBytes.Statement (.decZv h r) := by cases r <;> exact ⟨_, _, rfl, rfl⟩
theorem Laws.LeadingBytes.addEbIb (h : Head) (e : EOperand) (v : BitVec 8) :
    Laws.LeadingBytes.Statement (.addEbIb h e v) := ⟨_, _, rfl, rfl⟩
theorem Laws.LeadingBytes.orEbIb (h : Head) (e : EOperand) (v : BitVec 8) :
    Laws.LeadingBytes.Statement (.orEbIb h e v) := ⟨_, _, rfl, rfl⟩
theorem Laws.LeadingBytes.adcEbIb (h : Head) (e : EOperand) (v : BitVec 8) :
    Laws.LeadingBytes.Statement (.adcEbIb h e v) := ⟨_, _, rfl, rfl⟩
theorem Laws.LeadingBytes.sbbEbIb (h : Head) (e : EOperand) (v : BitVec 8) :
    Laws.LeadingBytes.Statement (.sbbEbIb h e v) := ⟨_, _, rfl, rfl⟩
theorem Laws.LeadingBytes.andEbIb (h : Head) (e : EOperand) (v : BitVec 8) :
    Laws.LeadingBytes.Statement (.andEbIb h e v) := ⟨_, _, rfl, rfl⟩
theorem Laws.LeadingBytes.subEbIb (h : Head) (e : EOperand) (v : BitVec 8) :
    Laws.LeadingBytes.Statement (.subEbIb h e v) := ⟨_, _, rfl, rfl⟩
theorem Laws.LeadingBytes.xorEbIb (h : Head) (e : EOperand) (v : BitVec 8) :
    Laws.LeadingBytes.Statement (.xorEbIb h e v) := ⟨_, _, rfl, rfl⟩
theorem Laws.LeadingBytes.cmpEbIb (h : Head) (e : EOperand) (v : BitVec 8) :
    Laws.LeadingBytes.Statement (.cmpEbIb h e v) := ⟨_, _, rfl, rfl⟩
theorem Laws.LeadingBytes.addEvIz (h : Head) (e : EOperand) (v : BitVec 32) :
    Laws.LeadingBytes.Statement (.addEvIz h e v) := ⟨_, _, rfl, rfl⟩
theorem Laws.LeadingBytes.orEvIz (h : Head) (e : EOperand) (v : BitVec 32) :
    Laws.LeadingBytes.Statement (.orEvIz h e v) := ⟨_, _, rfl, rfl⟩
theorem Laws.LeadingBytes.adcEvIz (h : Head) (e : EOperand) (v : BitVec 32) :
    Laws.LeadingBytes.Statement (.adcEvIz h e v) := ⟨_, _, rfl, rfl⟩
theorem Laws.LeadingBytes.sbbEvIz (h : Head) (e : EOperand) (v : BitVec 32) :
    Laws.LeadingBytes.Statement (.sbbEvIz h e v) := ⟨_, _, rfl, rfl⟩
theorem Laws.LeadingBytes.andEvIz (h : Head) (e : EOperand) (v : BitVec 32) :
    Laws.LeadingBytes.Statement (.andEvIz h e v) := ⟨_, _, rfl, rfl⟩
theorem Laws.LeadingBytes.subEvIz (h : Head) (e : EOperand) (v : BitVec 32) :
    Laws.LeadingBytes.Statement (.subEvIz h e v) := ⟨_, _, rfl, rfl⟩
theorem Laws.LeadingBytes.xorEvIz (h : Head) (e : EOperand) (v : BitVec 32) :
    Laws.LeadingBytes.Statement (.xorEvIz h e v) := ⟨_, _, rfl, rfl⟩
theorem Laws.LeadingBytes.cmpEvIz (h : Head) (e : EOperand) (v : BitVec 32) :
    Laws.LeadingBytes.Statement (.cmpEvIz h e v) := ⟨_, _, rfl, rfl⟩
theorem Laws.LeadingBytes.addEvIb (h : Head) (e : EOperand) (v : BitVec 8) :
    Laws.LeadingBytes.Statement (.addEvIb h e v) := ⟨_, _, rfl, rfl⟩
theorem Laws.LeadingBytes.orEvIb (h : Head) (e : EOperand) (v : BitVec 8) :
    Laws.LeadingBytes.Statement (.orEvIb h e v) := ⟨_, _, rfl, rfl⟩
theorem Laws.LeadingBytes.adcEvIb (h : Head) (e : EOperand) (v : BitVec 8) :
    Laws.LeadingBytes.Statement (.adcEvIb h e v) := ⟨_, _, rfl, rfl⟩
theorem Laws.LeadingBytes.sbbEvIb (h : Head) (e : EOperand) (v : BitVec 8) :
    Laws.LeadingBytes.Statement (.sbbEvIb h e v) := ⟨_, _, rfl, rfl⟩
theorem Laws.LeadingBytes.andEvIb (h : Head) (e : EOperand) (v : BitVec 8) :
    Laws.LeadingBytes.Statement (.andEvIb h e v) := ⟨_, _, rfl, rfl⟩
theorem Laws.LeadingBytes.subEvIb (h : Head) (e : EOperand) (v : BitVec 8) :
    Laws.LeadingBytes.Statement (.subEvIb h e v) := ⟨_, _, rfl, rfl⟩
theorem Laws.LeadingBytes.xorEvIb (h : Head) (e : EOperand) (v : BitVec 8) :
    Laws.LeadingBytes.Statement (.xorEvIb h e v) := ⟨_, _, rfl, rfl⟩
theorem Laws.LeadingBytes.cmpEvIb (h : Head) (e : EOperand) (v : BitVec 8) :
    Laws.LeadingBytes.Statement (.cmpEvIb h e v) := ⟨_, _, rfl, rfl⟩
theorem Laws.LeadingBytes.addEbIb82 (h : Head) (a : Aliased (EOperand × BitVec 8)) :
    Laws.LeadingBytes.Statement (.addEbIb82 h a) := ⟨_, _, rfl, rfl⟩
theorem Laws.LeadingBytes.orEbIb82 (h : Head) (a : Aliased (EOperand × BitVec 8)) :
    Laws.LeadingBytes.Statement (.orEbIb82 h a) := ⟨_, _, rfl, rfl⟩
theorem Laws.LeadingBytes.adcEbIb82 (h : Head) (a : Aliased (EOperand × BitVec 8)) :
    Laws.LeadingBytes.Statement (.adcEbIb82 h a) := ⟨_, _, rfl, rfl⟩
theorem Laws.LeadingBytes.sbbEbIb82 (h : Head) (a : Aliased (EOperand × BitVec 8)) :
    Laws.LeadingBytes.Statement (.sbbEbIb82 h a) := ⟨_, _, rfl, rfl⟩
theorem Laws.LeadingBytes.andEbIb82 (h : Head) (a : Aliased (EOperand × BitVec 8)) :
    Laws.LeadingBytes.Statement (.andEbIb82 h a) := ⟨_, _, rfl, rfl⟩
theorem Laws.LeadingBytes.subEbIb82 (h : Head) (a : Aliased (EOperand × BitVec 8)) :
    Laws.LeadingBytes.Statement (.subEbIb82 h a) := ⟨_, _, rfl, rfl⟩
theorem Laws.LeadingBytes.xorEbIb82 (h : Head) (a : Aliased (EOperand × BitVec 8)) :
    Laws.LeadingBytes.Statement (.xorEbIb82 h a) := ⟨_, _, rfl, rfl⟩
theorem Laws.LeadingBytes.cmpEbIb82 (h : Head) (a : Aliased (EOperand × BitVec 8)) :
    Laws.LeadingBytes.Statement (.cmpEbIb82 h a) := ⟨_, _, rfl, rfl⟩
theorem Laws.LeadingBytes.testEbGb (h : Head) (r : Reg) (e : EOperand) :
    Laws.LeadingBytes.Statement (.testEbGb h r e) := ⟨_, _, rfl, rfl⟩
theorem Laws.LeadingBytes.testEvGv (h : Head) (r : Reg) (e : EOperand) :
    Laws.LeadingBytes.Statement (.testEvGv h r e) := ⟨_, _, rfl, rfl⟩
theorem Laws.LeadingBytes.testALIb (h : Head) (v : BitVec 8) :
    Laws.LeadingBytes.Statement (.testALIb h v) := ⟨_, _, rfl, rfl⟩
theorem Laws.LeadingBytes.testEAXIz (h : Head) (v : BitVec 32) :
    Laws.LeadingBytes.Statement (.testEAXIz h v) := ⟨_, _, rfl, rfl⟩
theorem Laws.LeadingBytes.testEbIb (h : Head) (e : EOperand) (v : BitVec 8) :
    Laws.LeadingBytes.Statement (.testEbIb h e v) := ⟨_, _, rfl, rfl⟩
theorem Laws.LeadingBytes.testEbIbSlash1 (h : Head) (a : Aliased (EOperand × BitVec 8)) :
    Laws.LeadingBytes.Statement (.testEbIbSlash1 h a) := ⟨_, _, rfl, rfl⟩
theorem Laws.LeadingBytes.notEb (h : Head) (e : EOperand) :
    Laws.LeadingBytes.Statement (.notEb h e) := ⟨_, _, rfl, rfl⟩
theorem Laws.LeadingBytes.negEb (h : Head) (e : EOperand) :
    Laws.LeadingBytes.Statement (.negEb h e) := ⟨_, _, rfl, rfl⟩
theorem Laws.LeadingBytes.mulEb (h : Head) (e : EOperand) :
    Laws.LeadingBytes.Statement (.mulEb h e) := ⟨_, _, rfl, rfl⟩
theorem Laws.LeadingBytes.imulEb (h : Head) (e : EOperand) :
    Laws.LeadingBytes.Statement (.imulEb h e) := ⟨_, _, rfl, rfl⟩
theorem Laws.LeadingBytes.divEb (h : Head) (e : EOperand) :
    Laws.LeadingBytes.Statement (.divEb h e) := ⟨_, _, rfl, rfl⟩
theorem Laws.LeadingBytes.idivEb (h : Head) (e : EOperand) :
    Laws.LeadingBytes.Statement (.idivEb h e) := ⟨_, _, rfl, rfl⟩
theorem Laws.LeadingBytes.testEvIz (h : Head) (e : EOperand) (v : BitVec 32) :
    Laws.LeadingBytes.Statement (.testEvIz h e v) := ⟨_, _, rfl, rfl⟩
theorem Laws.LeadingBytes.testEvIzSlash1 (h : Head) (a : Aliased (EOperand × BitVec 32)) :
    Laws.LeadingBytes.Statement (.testEvIzSlash1 h a) := ⟨_, _, rfl, rfl⟩
theorem Laws.LeadingBytes.notEv (h : Head) (e : EOperand) :
    Laws.LeadingBytes.Statement (.notEv h e) := ⟨_, _, rfl, rfl⟩
theorem Laws.LeadingBytes.negEv (h : Head) (e : EOperand) :
    Laws.LeadingBytes.Statement (.negEv h e) := ⟨_, _, rfl, rfl⟩
theorem Laws.LeadingBytes.mulEv (h : Head) (e : EOperand) :
    Laws.LeadingBytes.Statement (.mulEv h e) := ⟨_, _, rfl, rfl⟩
theorem Laws.LeadingBytes.imulEv (h : Head) (e : EOperand) :
    Laws.LeadingBytes.Statement (.imulEv h e) := ⟨_, _, rfl, rfl⟩
theorem Laws.LeadingBytes.divEv (h : Head) (e : EOperand) :
    Laws.LeadingBytes.Statement (.divEv h e) := ⟨_, _, rfl, rfl⟩
theorem Laws.LeadingBytes.idivEv (h : Head) (e : EOperand) :
    Laws.LeadingBytes.Statement (.idivEv h e) := ⟨_, _, rfl, rfl⟩
theorem Laws.LeadingBytes.incEb (h : Head) (e : EOperand) :
    Laws.LeadingBytes.Statement (.incEb h e) := ⟨_, _, rfl, rfl⟩
theorem Laws.LeadingBytes.decEb (h : Head) (e : EOperand) :
    Laws.LeadingBytes.Statement (.decEb h e) := ⟨_, _, rfl, rfl⟩
theorem Laws.LeadingBytes.incEv (h : Head) (e : EOperand) :
    Laws.LeadingBytes.Statement (.incEv h e) := ⟨_, _, rfl, rfl⟩
theorem Laws.LeadingBytes.decEv (h : Head) (e : EOperand) :
    Laws.LeadingBytes.Statement (.decEv h e) := ⟨_, _, rfl, rfl⟩
theorem Laws.LeadingBytes.undefinedFE2 (h : Head) (m : ModRmBits) :
    Laws.LeadingBytes.Statement (.undefinedFE2 h m) := ⟨_, _, rfl, rfl⟩
theorem Laws.LeadingBytes.undefinedFE3 (h : Head) (m : ModRmBits) :
    Laws.LeadingBytes.Statement (.undefinedFE3 h m) := ⟨_, _, rfl, rfl⟩
theorem Laws.LeadingBytes.undefinedFE4 (h : Head) (m : ModRmBits) :
    Laws.LeadingBytes.Statement (.undefinedFE4 h m) := ⟨_, _, rfl, rfl⟩
theorem Laws.LeadingBytes.undefinedFE5 (h : Head) (m : ModRmBits) :
    Laws.LeadingBytes.Statement (.undefinedFE5 h m) := ⟨_, _, rfl, rfl⟩
theorem Laws.LeadingBytes.undefinedFE6 (h : Head) (m : ModRmBits) :
    Laws.LeadingBytes.Statement (.undefinedFE6 h m) := ⟨_, _, rfl, rfl⟩
theorem Laws.LeadingBytes.undefinedFE7 (h : Head) (m : ModRmBits) :
    Laws.LeadingBytes.Statement (.undefinedFE7 h m) := ⟨_, _, rfl, rfl⟩
theorem Laws.LeadingBytes.undefinedFF7 (h : Head) (m : ModRmBits) :
    Laws.LeadingBytes.Statement (.undefinedFF7 h m) := ⟨_, _, rfl, rfl⟩
theorem Laws.LeadingBytes.rolEbIb (h : Head) (e : EOperand) (v : BitVec 8) :
    Laws.LeadingBytes.Statement (.rolEbIb h e v) := ⟨_, _, rfl, rfl⟩
theorem Laws.LeadingBytes.rorEbIb (h : Head) (e : EOperand) (v : BitVec 8) :
    Laws.LeadingBytes.Statement (.rorEbIb h e v) := ⟨_, _, rfl, rfl⟩
theorem Laws.LeadingBytes.rclEbIb (h : Head) (e : EOperand) (v : BitVec 8) :
    Laws.LeadingBytes.Statement (.rclEbIb h e v) := ⟨_, _, rfl, rfl⟩
theorem Laws.LeadingBytes.rcrEbIb (h : Head) (e : EOperand) (v : BitVec 8) :
    Laws.LeadingBytes.Statement (.rcrEbIb h e v) := ⟨_, _, rfl, rfl⟩
theorem Laws.LeadingBytes.shlEbIb (h : Head) (e : EOperand) (v : BitVec 8) :
    Laws.LeadingBytes.Statement (.shlEbIb h e v) := ⟨_, _, rfl, rfl⟩
theorem Laws.LeadingBytes.shrEbIb (h : Head) (e : EOperand) (v : BitVec 8) :
    Laws.LeadingBytes.Statement (.shrEbIb h e v) := ⟨_, _, rfl, rfl⟩
theorem Laws.LeadingBytes.shlEbIbSlash6 (h : Head) (a : Aliased (EOperand × BitVec 8)) :
    Laws.LeadingBytes.Statement (.shlEbIbSlash6 h a) := ⟨_, _, rfl, rfl⟩
theorem Laws.LeadingBytes.sarEbIb (h : Head) (e : EOperand) (v : BitVec 8) :
    Laws.LeadingBytes.Statement (.sarEbIb h e v) := ⟨_, _, rfl, rfl⟩
theorem Laws.LeadingBytes.rolEvIb (h : Head) (e : EOperand) (v : BitVec 8) :
    Laws.LeadingBytes.Statement (.rolEvIb h e v) := ⟨_, _, rfl, rfl⟩
theorem Laws.LeadingBytes.rorEvIb (h : Head) (e : EOperand) (v : BitVec 8) :
    Laws.LeadingBytes.Statement (.rorEvIb h e v) := ⟨_, _, rfl, rfl⟩
theorem Laws.LeadingBytes.rclEvIb (h : Head) (e : EOperand) (v : BitVec 8) :
    Laws.LeadingBytes.Statement (.rclEvIb h e v) := ⟨_, _, rfl, rfl⟩
theorem Laws.LeadingBytes.rcrEvIb (h : Head) (e : EOperand) (v : BitVec 8) :
    Laws.LeadingBytes.Statement (.rcrEvIb h e v) := ⟨_, _, rfl, rfl⟩
theorem Laws.LeadingBytes.shlEvIb (h : Head) (e : EOperand) (v : BitVec 8) :
    Laws.LeadingBytes.Statement (.shlEvIb h e v) := ⟨_, _, rfl, rfl⟩
theorem Laws.LeadingBytes.shrEvIb (h : Head) (e : EOperand) (v : BitVec 8) :
    Laws.LeadingBytes.Statement (.shrEvIb h e v) := ⟨_, _, rfl, rfl⟩
theorem Laws.LeadingBytes.shlEvIbSlash6 (h : Head) (a : Aliased (EOperand × BitVec 8)) :
    Laws.LeadingBytes.Statement (.shlEvIbSlash6 h a) := ⟨_, _, rfl, rfl⟩
theorem Laws.LeadingBytes.sarEvIb (h : Head) (e : EOperand) (v : BitVec 8) :
    Laws.LeadingBytes.Statement (.sarEvIb h e v) := ⟨_, _, rfl, rfl⟩
theorem Laws.LeadingBytes.rolEb1 (h : Head) (e : EOperand) :
    Laws.LeadingBytes.Statement (.rolEb1 h e) := ⟨_, _, rfl, rfl⟩
theorem Laws.LeadingBytes.rorEb1 (h : Head) (e : EOperand) :
    Laws.LeadingBytes.Statement (.rorEb1 h e) := ⟨_, _, rfl, rfl⟩
theorem Laws.LeadingBytes.rclEb1 (h : Head) (e : EOperand) :
    Laws.LeadingBytes.Statement (.rclEb1 h e) := ⟨_, _, rfl, rfl⟩
theorem Laws.LeadingBytes.rcrEb1 (h : Head) (e : EOperand) :
    Laws.LeadingBytes.Statement (.rcrEb1 h e) := ⟨_, _, rfl, rfl⟩
theorem Laws.LeadingBytes.shlEb1 (h : Head) (e : EOperand) :
    Laws.LeadingBytes.Statement (.shlEb1 h e) := ⟨_, _, rfl, rfl⟩
theorem Laws.LeadingBytes.shrEb1 (h : Head) (e : EOperand) :
    Laws.LeadingBytes.Statement (.shrEb1 h e) := ⟨_, _, rfl, rfl⟩
theorem Laws.LeadingBytes.shlEb1Slash6 (h : Head) (a : Aliased EOperand) :
    Laws.LeadingBytes.Statement (.shlEb1Slash6 h a) := ⟨_, _, rfl, rfl⟩
theorem Laws.LeadingBytes.sarEb1 (h : Head) (e : EOperand) :
    Laws.LeadingBytes.Statement (.sarEb1 h e) := ⟨_, _, rfl, rfl⟩
theorem Laws.LeadingBytes.rolEv1 (h : Head) (e : EOperand) :
    Laws.LeadingBytes.Statement (.rolEv1 h e) := ⟨_, _, rfl, rfl⟩
theorem Laws.LeadingBytes.rorEv1 (h : Head) (e : EOperand) :
    Laws.LeadingBytes.Statement (.rorEv1 h e) := ⟨_, _, rfl, rfl⟩
theorem Laws.LeadingBytes.rclEv1 (h : Head) (e : EOperand) :
    Laws.LeadingBytes.Statement (.rclEv1 h e) := ⟨_, _, rfl, rfl⟩
theorem Laws.LeadingBytes.rcrEv1 (h : Head) (e : EOperand) :
    Laws.LeadingBytes.Statement (.rcrEv1 h e) := ⟨_, _, rfl, rfl⟩
theorem Laws.LeadingBytes.shlEv1 (h : Head) (e : EOperand) :
    Laws.LeadingBytes.Statement (.shlEv1 h e) := ⟨_, _, rfl, rfl⟩
theorem Laws.LeadingBytes.shrEv1 (h : Head) (e : EOperand) :
    Laws.LeadingBytes.Statement (.shrEv1 h e) := ⟨_, _, rfl, rfl⟩
theorem Laws.LeadingBytes.shlEv1Slash6 (h : Head) (a : Aliased EOperand) :
    Laws.LeadingBytes.Statement (.shlEv1Slash6 h a) := ⟨_, _, rfl, rfl⟩
theorem Laws.LeadingBytes.sarEv1 (h : Head) (e : EOperand) :
    Laws.LeadingBytes.Statement (.sarEv1 h e) := ⟨_, _, rfl, rfl⟩
theorem Laws.LeadingBytes.rolEbCL (h : Head) (e : EOperand) :
    Laws.LeadingBytes.Statement (.rolEbCL h e) := ⟨_, _, rfl, rfl⟩
theorem Laws.LeadingBytes.rorEbCL (h : Head) (e : EOperand) :
    Laws.LeadingBytes.Statement (.rorEbCL h e) := ⟨_, _, rfl, rfl⟩
theorem Laws.LeadingBytes.rclEbCL (h : Head) (e : EOperand) :
    Laws.LeadingBytes.Statement (.rclEbCL h e) := ⟨_, _, rfl, rfl⟩
theorem Laws.LeadingBytes.rcrEbCL (h : Head) (e : EOperand) :
    Laws.LeadingBytes.Statement (.rcrEbCL h e) := ⟨_, _, rfl, rfl⟩
theorem Laws.LeadingBytes.shlEbCL (h : Head) (e : EOperand) :
    Laws.LeadingBytes.Statement (.shlEbCL h e) := ⟨_, _, rfl, rfl⟩
theorem Laws.LeadingBytes.shrEbCL (h : Head) (e : EOperand) :
    Laws.LeadingBytes.Statement (.shrEbCL h e) := ⟨_, _, rfl, rfl⟩
theorem Laws.LeadingBytes.shlEbCLSlash6 (h : Head) (a : Aliased EOperand) :
    Laws.LeadingBytes.Statement (.shlEbCLSlash6 h a) := ⟨_, _, rfl, rfl⟩
theorem Laws.LeadingBytes.sarEbCL (h : Head) (e : EOperand) :
    Laws.LeadingBytes.Statement (.sarEbCL h e) := ⟨_, _, rfl, rfl⟩
theorem Laws.LeadingBytes.rolEvCL (h : Head) (e : EOperand) :
    Laws.LeadingBytes.Statement (.rolEvCL h e) := ⟨_, _, rfl, rfl⟩
theorem Laws.LeadingBytes.rorEvCL (h : Head) (e : EOperand) :
    Laws.LeadingBytes.Statement (.rorEvCL h e) := ⟨_, _, rfl, rfl⟩
theorem Laws.LeadingBytes.rclEvCL (h : Head) (e : EOperand) :
    Laws.LeadingBytes.Statement (.rclEvCL h e) := ⟨_, _, rfl, rfl⟩
theorem Laws.LeadingBytes.rcrEvCL (h : Head) (e : EOperand) :
    Laws.LeadingBytes.Statement (.rcrEvCL h e) := ⟨_, _, rfl, rfl⟩
theorem Laws.LeadingBytes.shlEvCL (h : Head) (e : EOperand) :
    Laws.LeadingBytes.Statement (.shlEvCL h e) := ⟨_, _, rfl, rfl⟩
theorem Laws.LeadingBytes.shrEvCL (h : Head) (e : EOperand) :
    Laws.LeadingBytes.Statement (.shrEvCL h e) := ⟨_, _, rfl, rfl⟩
theorem Laws.LeadingBytes.shlEvCLSlash6 (h : Head) (a : Aliased EOperand) :
    Laws.LeadingBytes.Statement (.shlEvCLSlash6 h a) := ⟨_, _, rfl, rfl⟩
theorem Laws.LeadingBytes.sarEvCL (h : Head) (e : EOperand) :
    Laws.LeadingBytes.Statement (.sarEvCL h e) := ⟨_, _, rfl, rfl⟩
theorem Laws.LeadingBytes.imulGvEvIz (h : Head) (r : Reg) (e : EOperand) (v : BitVec 32) :
    Laws.LeadingBytes.Statement (.imulGvEvIz h r e v) := ⟨_, _, rfl, rfl⟩
theorem Laws.LeadingBytes.imulGvEvIb (h : Head) (r : Reg) (e : EOperand) (v : BitVec 8) :
    Laws.LeadingBytes.Statement (.imulGvEvIb h r e v) := ⟨_, _, rfl, rfl⟩
theorem Laws.LeadingBytes.imulGvEv (h : Head) (r : Reg) (e : EOperand) :
    Laws.LeadingBytes.Statement (.imulGvEv h r e) := ⟨_, _, rfl, rfl⟩
theorem Laws.LeadingBytes.joJb (h : Head) (v : BitVec 8) :
    Laws.LeadingBytes.Statement (.joJb h v) := ⟨_, _, rfl, rfl⟩
theorem Laws.LeadingBytes.jnoJb (h : Head) (v : BitVec 8) :
    Laws.LeadingBytes.Statement (.jnoJb h v) := ⟨_, _, rfl, rfl⟩
theorem Laws.LeadingBytes.jbJb (h : Head) (v : BitVec 8) :
    Laws.LeadingBytes.Statement (.jbJb h v) := ⟨_, _, rfl, rfl⟩
theorem Laws.LeadingBytes.jaeJb (h : Head) (v : BitVec 8) :
    Laws.LeadingBytes.Statement (.jaeJb h v) := ⟨_, _, rfl, rfl⟩
theorem Laws.LeadingBytes.jeJb (h : Head) (v : BitVec 8) :
    Laws.LeadingBytes.Statement (.jeJb h v) := ⟨_, _, rfl, rfl⟩
theorem Laws.LeadingBytes.jneJb (h : Head) (v : BitVec 8) :
    Laws.LeadingBytes.Statement (.jneJb h v) := ⟨_, _, rfl, rfl⟩
theorem Laws.LeadingBytes.jbeJb (h : Head) (v : BitVec 8) :
    Laws.LeadingBytes.Statement (.jbeJb h v) := ⟨_, _, rfl, rfl⟩
theorem Laws.LeadingBytes.jaJb (h : Head) (v : BitVec 8) :
    Laws.LeadingBytes.Statement (.jaJb h v) := ⟨_, _, rfl, rfl⟩
theorem Laws.LeadingBytes.jsJb (h : Head) (v : BitVec 8) :
    Laws.LeadingBytes.Statement (.jsJb h v) := ⟨_, _, rfl, rfl⟩
theorem Laws.LeadingBytes.jnsJb (h : Head) (v : BitVec 8) :
    Laws.LeadingBytes.Statement (.jnsJb h v) := ⟨_, _, rfl, rfl⟩
theorem Laws.LeadingBytes.jpJb (h : Head) (v : BitVec 8) :
    Laws.LeadingBytes.Statement (.jpJb h v) := ⟨_, _, rfl, rfl⟩
theorem Laws.LeadingBytes.jnpJb (h : Head) (v : BitVec 8) :
    Laws.LeadingBytes.Statement (.jnpJb h v) := ⟨_, _, rfl, rfl⟩
theorem Laws.LeadingBytes.jlJb (h : Head) (v : BitVec 8) :
    Laws.LeadingBytes.Statement (.jlJb h v) := ⟨_, _, rfl, rfl⟩
theorem Laws.LeadingBytes.jgeJb (h : Head) (v : BitVec 8) :
    Laws.LeadingBytes.Statement (.jgeJb h v) := ⟨_, _, rfl, rfl⟩
theorem Laws.LeadingBytes.jleJb (h : Head) (v : BitVec 8) :
    Laws.LeadingBytes.Statement (.jleJb h v) := ⟨_, _, rfl, rfl⟩
theorem Laws.LeadingBytes.jgJb (h : Head) (v : BitVec 8) :
    Laws.LeadingBytes.Statement (.jgJb h v) := ⟨_, _, rfl, rfl⟩
theorem Laws.LeadingBytes.joJz (h : Head) (v : BitVec 32) :
    Laws.LeadingBytes.Statement (.joJz h v) := ⟨_, _, rfl, rfl⟩
theorem Laws.LeadingBytes.jnoJz (h : Head) (v : BitVec 32) :
    Laws.LeadingBytes.Statement (.jnoJz h v) := ⟨_, _, rfl, rfl⟩
theorem Laws.LeadingBytes.jbJz (h : Head) (v : BitVec 32) :
    Laws.LeadingBytes.Statement (.jbJz h v) := ⟨_, _, rfl, rfl⟩
theorem Laws.LeadingBytes.jaeJz (h : Head) (v : BitVec 32) :
    Laws.LeadingBytes.Statement (.jaeJz h v) := ⟨_, _, rfl, rfl⟩
theorem Laws.LeadingBytes.jeJz (h : Head) (v : BitVec 32) :
    Laws.LeadingBytes.Statement (.jeJz h v) := ⟨_, _, rfl, rfl⟩
theorem Laws.LeadingBytes.jneJz (h : Head) (v : BitVec 32) :
    Laws.LeadingBytes.Statement (.jneJz h v) := ⟨_, _, rfl, rfl⟩
theorem Laws.LeadingBytes.jbeJz (h : Head) (v : BitVec 32) :
    Laws.LeadingBytes.Statement (.jbeJz h v) := ⟨_, _, rfl, rfl⟩
theorem Laws.LeadingBytes.jaJz (h : Head) (v : BitVec 32) :
    Laws.LeadingBytes.Statement (.jaJz h v) := ⟨_, _, rfl, rfl⟩
theorem Laws.LeadingBytes.jsJz (h : Head) (v : BitVec 32) :
    Laws.LeadingBytes.Statement (.jsJz h v) := ⟨_, _, rfl, rfl⟩
theorem Laws.LeadingBytes.jnsJz (h : Head) (v : BitVec 32) :
    Laws.LeadingBytes.Statement (.jnsJz h v) := ⟨_, _, rfl, rfl⟩
theorem Laws.LeadingBytes.jpJz (h : Head) (v : BitVec 32) :
    Laws.LeadingBytes.Statement (.jpJz h v) := ⟨_, _, rfl, rfl⟩
theorem Laws.LeadingBytes.jnpJz (h : Head) (v : BitVec 32) :
    Laws.LeadingBytes.Statement (.jnpJz h v) := ⟨_, _, rfl, rfl⟩
theorem Laws.LeadingBytes.jlJz (h : Head) (v : BitVec 32) :
    Laws.LeadingBytes.Statement (.jlJz h v) := ⟨_, _, rfl, rfl⟩
theorem Laws.LeadingBytes.jgeJz (h : Head) (v : BitVec 32) :
    Laws.LeadingBytes.Statement (.jgeJz h v) := ⟨_, _, rfl, rfl⟩
theorem Laws.LeadingBytes.jleJz (h : Head) (v : BitVec 32) :
    Laws.LeadingBytes.Statement (.jleJz h v) := ⟨_, _, rfl, rfl⟩
theorem Laws.LeadingBytes.jgJz (h : Head) (v : BitVec 32) :
    Laws.LeadingBytes.Statement (.jgJz h v) := ⟨_, _, rfl, rfl⟩
theorem Laws.LeadingBytes.setoEb (h : Head) (r : Reg) (e : EOperand) :
    Laws.LeadingBytes.Statement (.setoEb h r e) := ⟨_, _, rfl, rfl⟩
theorem Laws.LeadingBytes.setnoEb (h : Head) (r : Reg) (e : EOperand) :
    Laws.LeadingBytes.Statement (.setnoEb h r e) := ⟨_, _, rfl, rfl⟩
theorem Laws.LeadingBytes.setbEb (h : Head) (r : Reg) (e : EOperand) :
    Laws.LeadingBytes.Statement (.setbEb h r e) := ⟨_, _, rfl, rfl⟩
theorem Laws.LeadingBytes.setaeEb (h : Head) (r : Reg) (e : EOperand) :
    Laws.LeadingBytes.Statement (.setaeEb h r e) := ⟨_, _, rfl, rfl⟩
theorem Laws.LeadingBytes.seteEb (h : Head) (r : Reg) (e : EOperand) :
    Laws.LeadingBytes.Statement (.seteEb h r e) := ⟨_, _, rfl, rfl⟩
theorem Laws.LeadingBytes.setneEb (h : Head) (r : Reg) (e : EOperand) :
    Laws.LeadingBytes.Statement (.setneEb h r e) := ⟨_, _, rfl, rfl⟩
theorem Laws.LeadingBytes.setbeEb (h : Head) (r : Reg) (e : EOperand) :
    Laws.LeadingBytes.Statement (.setbeEb h r e) := ⟨_, _, rfl, rfl⟩
theorem Laws.LeadingBytes.setaEb (h : Head) (r : Reg) (e : EOperand) :
    Laws.LeadingBytes.Statement (.setaEb h r e) := ⟨_, _, rfl, rfl⟩
theorem Laws.LeadingBytes.setsEb (h : Head) (r : Reg) (e : EOperand) :
    Laws.LeadingBytes.Statement (.setsEb h r e) := ⟨_, _, rfl, rfl⟩
theorem Laws.LeadingBytes.setnsEb (h : Head) (r : Reg) (e : EOperand) :
    Laws.LeadingBytes.Statement (.setnsEb h r e) := ⟨_, _, rfl, rfl⟩
theorem Laws.LeadingBytes.setpEb (h : Head) (r : Reg) (e : EOperand) :
    Laws.LeadingBytes.Statement (.setpEb h r e) := ⟨_, _, rfl, rfl⟩
theorem Laws.LeadingBytes.setnpEb (h : Head) (r : Reg) (e : EOperand) :
    Laws.LeadingBytes.Statement (.setnpEb h r e) := ⟨_, _, rfl, rfl⟩
theorem Laws.LeadingBytes.setlEb (h : Head) (r : Reg) (e : EOperand) :
    Laws.LeadingBytes.Statement (.setlEb h r e) := ⟨_, _, rfl, rfl⟩
theorem Laws.LeadingBytes.setgeEb (h : Head) (r : Reg) (e : EOperand) :
    Laws.LeadingBytes.Statement (.setgeEb h r e) := ⟨_, _, rfl, rfl⟩
theorem Laws.LeadingBytes.setleEb (h : Head) (r : Reg) (e : EOperand) :
    Laws.LeadingBytes.Statement (.setleEb h r e) := ⟨_, _, rfl, rfl⟩
theorem Laws.LeadingBytes.setgEb (h : Head) (r : Reg) (e : EOperand) :
    Laws.LeadingBytes.Statement (.setgEb h r e) := ⟨_, _, rfl, rfl⟩
theorem Laws.LeadingBytes.clc (h : Head) :
    Laws.LeadingBytes.Statement (.clc h) := ⟨_, _, rfl, rfl⟩
theorem Laws.LeadingBytes.stc (h : Head) :
    Laws.LeadingBytes.Statement (.stc h) := ⟨_, _, rfl, rfl⟩
theorem Laws.LeadingBytes.cmc (h : Head) :
    Laws.LeadingBytes.Statement (.cmc h) := ⟨_, _, rfl, rfl⟩
theorem Laws.LeadingBytes.lahf (h : Head) :
    Laws.LeadingBytes.Statement (.lahf h) := ⟨_, _, rfl, rfl⟩
theorem Laws.LeadingBytes.sahf (h : Head) :
    Laws.LeadingBytes.Statement (.sahf h) := ⟨_, _, rfl, rfl⟩
theorem Laws.LeadingBytes.inALIb (h : Head) (v : BitVec 8) :
    Laws.LeadingBytes.Statement (.inALIb h v) := ⟨_, _, rfl, rfl⟩
theorem Laws.LeadingBytes.inEAXIb (h : Head) (v : BitVec 8) :
    Laws.LeadingBytes.Statement (.inEAXIb h v) := ⟨_, _, rfl, rfl⟩
theorem Laws.LeadingBytes.inALDX (h : Head) :
    Laws.LeadingBytes.Statement (.inALDX h) := ⟨_, _, rfl, rfl⟩
theorem Laws.LeadingBytes.inEAXDX (h : Head) :
    Laws.LeadingBytes.Statement (.inEAXDX h) := ⟨_, _, rfl, rfl⟩
theorem Laws.LeadingBytes.outIbAL (h : Head) (v : BitVec 8) :
    Laws.LeadingBytes.Statement (.outIbAL h v) := ⟨_, _, rfl, rfl⟩
theorem Laws.LeadingBytes.outIbEAX (h : Head) (v : BitVec 8) :
    Laws.LeadingBytes.Statement (.outIbEAX h v) := ⟨_, _, rfl, rfl⟩
theorem Laws.LeadingBytes.outDXAL (h : Head) :
    Laws.LeadingBytes.Statement (.outDXAL h) := ⟨_, _, rfl, rfl⟩
theorem Laws.LeadingBytes.outDXEAX (h : Head) :
    Laws.LeadingBytes.Statement (.outDXEAX h) := ⟨_, _, rfl, rfl⟩
theorem Laws.LeadingBytes.int3 (h : Head) :
    Laws.LeadingBytes.Statement (.int3 h) := ⟨_, _, rfl, rfl⟩
theorem Laws.LeadingBytes.intIb (h : Head) (v : BitVec 8) :
    Laws.LeadingBytes.Statement (.intIb h v) := ⟨_, _, rfl, rfl⟩
theorem Laws.LeadingBytes.into (h : Head) :
    Laws.LeadingBytes.Statement (.into h) := ⟨_, _, rfl, rfl⟩

end Sys2Proof
end

