-- ==== Sys2Proof/Tests/Slice0.lean ====
section
/-!
SUPPORT. The tests: decoding of words written out from the encoding tables, one-step vectors of 95_test_vectors, an
ill-formed term for each check of `wellFormed`, and a witness for the hypotheses of every statement.
-/
namespace Sys2Proof.Tests
open Sys2Proof.Machine

set_option Elab.async false

/-! ### One step from a small state -/

/-- What a vector of 95_test_vectors lists of a launch state; what it does not list is 0 or the default. -/
structure Start where
  regs : List (Reg × Dword) := []
  flags : List Flag := []
  mem : List (Nat × Byte) := []
  bases : List (Seg × Dword) := []
  eip : Dword := 0x100
  codeSize : Size := .b16
  aliasPolicy : AliasPolicy := .undefinedOpcode
  espBase : EspBaseSegment := .ds
  mmio : List MmioRange := []

/-- Replace the base of a segment register. -/
def withBase (f : SegFile) (x : Seg × Dword) : SegFile :=
  match x.1 with
  | .es => { f with es := { selector := 0, base := x.2 } }
  | .cs => { f with cs := { selector := 0, base := x.2 } }
  | .ss => { f with ss := { selector := 0, base := x.2 } }
  | .ds => { f with ds := { selector := 0, base := x.2 } }
  | .fs => { f with fs := { selector := 0, base := x.2 } }
  | .gs => { f with gs := { selector := 0, base := x.2 } }

/-- Write listed bytes. -/
def withMem (m : Memory) (l : List (Nat × Byte)) : Memory := l.foldl (fun m x => Memory.write m x.1 x.2) m

/-- Write listed registers. -/
def withRegs (g : Gpr) (l : List (Reg × Dword)) : Gpr := l.foldl (fun g x => g.set x.1 x.2) g

/-- The launch state of a vector, its instruction bytes at `EIP`. -/
def launch (bytes : List Byte) (x : Start) : State :=
  let s : State :=
    { State.reset with
      gpr := withRegs .reset x.regs
      seg := x.bases.foldl withBase .reset
      eip := x.eip
      flags := x.flags.foldl (fun e f => e.setOvr f (some true)) .reset
      mem := withMem [] x.mem
      params :=
        { Config.launch with
          codeSize := x.codeSize, aliasPolicy := x.aliasPolicy, espBaseSegment := x.espBase, mmio := x.mmio } }
  s.placeBytes bytes 0

/-- What a vector lists of its end state: the changed registers and bytes, the flags that are 1, the flags and
registers that hold a draw, `EIP` and the run status. -/
structure End where
  regs : List (Reg × Dword) := []
  mem : List (Nat × Byte) := []
  flags : List Flag := []
  undefined : List Flag := []
  drawn : List Reg := []
  eip : Dword
  status : RunStatus := .running

/-- The registers of a vector's end, save those that hold a draw. -/
def regsEnd (s t : State) (y : End) : Bool :=
  [Reg.ax, .cx, .dx, .bx, .sp, .bp, .si, .di].all fun r =>
    y.drawn.contains r || t.gpr.get r == (withRegs s.gpr y.regs).get r

/-- The end state of a vector. -/
def ends (s t : State) (y : End) : Bool :=
  regsEnd s t y && t.mem == withMem s.mem y.mem && t.eip == y.eip && t.status == y.status && t.seg == s.seg
    && allFlags.all fun f => y.undefined.contains f || t.flag f == y.flags.contains f

/-- One step from the launch state of a vector ends as it says. -/
def runs (bytes : List Byte) (x : Start) (y : End) : Bool :=
  match step (launch bytes x) with
  | .next t => ends (launch bytes x) t y
  | .fault _ => false
  | .refused _ => false

/-- 95_test_vectors 1.5: `04 10`, ADD AL, 0x10. -/
theorem test_addALIb :
    runs [0x04, 0x10] { regs := [(.ax, 0xF5)] } { regs := [(.ax, 0x5)], flags := [.cf, .pf], eip := 0x102 }
    = true := by
  decide +kernel

/-- 95_test_vectors 1.6: `03 44 B3 F8`, ADD EAX, [EBX+ESI*4-8] (code32). -/
theorem test_addGvEv :
    runs [0x03, 0x44, 0xB3, 0xF8]
    { regs := [(.ax, 0x1), (.bx, 0x3000), (.si, 0x10)],
      mem := [(0x3038, 0x41), (0x3039, 0x0), (0x303A, 0x0), (0x303B, 0x0)], codeSize := .b32 }
    { regs := [(.ax, 0x42)], flags := [.pf], eip := 0x104 } = true := by
  decide +kernel

/-- 95_test_vectors 1.6: `67 02 44 C8 7F`, ADD AL, [EAX+ECX*8+0x7F] (67 in 16-bit code). -/
theorem test_addGbEb :
    runs [0x67, 0x02, 0x44, 0xC8, 0x7F] { regs := [(.ax, 0x1000), (.cx, 0x2)], mem := [(0x108F, 0x5)] }
    { regs := [(.ax, 0x1005)], flags := [.pf], eip := 0x105 } = true := by
  decide +kernel

/-- 95_test_vectors 1.7: `D2 E8`, SHR AL, CL (CL = 0). -/
theorem test_shrEbCL :
    runs [0xD2, 0xE8] { regs := [(.ax, 0xF5)], flags := [.cf, .zf, .of] } { flags := [.cf, .zf, .of], eip := 0x102 }
    = true := by
  decide +kernel

/-- 95_test_vectors 1.7: `D2 E8`, SHR AL, CL (CL = 0x20, masked to 0). -/
theorem test_shrEbCL_2 :
    runs [0xD2, 0xE8] { regs := [(.ax, 0xF5), (.cx, 0x20)], flags := [.cf, .pf, .sf] }
    { flags := [.cf, .pf, .sf], eip := 0x102 } = true := by
  decide +kernel

/-- 95_test_vectors 1.7: `C0 2F 00`, SHR BYTE [BX], 0 (memory still read, not written). -/
theorem test_shrEbIb :
    runs [0xC0, 0x2F, 0x00] { regs := [(.bx, 0x2000)], flags := [.sf, .of], mem := [(0x2000, 0x81)] }
    { flags := [.sf, .of], eip := 0x103 } = true := by
  decide +kernel

/-- 95_test_vectors 1.8: `FE D7`, FE /2, mod 3. -/
theorem test_undefinedFE2 :
    runs [0xFE, 0xD7] {} { status := .faulted (.fault 6), eip := 0x100 } = true := by
  decide +kernel

/-- 95_test_vectors 1.8: `FE 97 34 12`, FE /2, mod 2 (displacement not fetched). -/
theorem test_undefinedFE2_2 :
    runs [0xFE, 0x97, 0x34, 0x12] {} { status := .faulted (.fault 6), eip := 0x100 } = true := by
  decide +kernel

/-- 95_test_vectors 1.8: `FF 38`, FF /7. -/
theorem test_undefinedFF7 :
    runs [0xFF, 0x38] {} { status := .faulted (.fault 6), eip := 0x100 } = true := by
  decide +kernel

/-- 95_test_vectors 1.8: `F4`, F4 (outside the block: refused, not #UD). -/
theorem test_refuseNotInBlock :
    runs [0xF4] {} { status := .refused .notInBlock, eip := 0x100 } = true := by
  decide +kernel

/-- 95_test_vectors 2.4: `00 04 63`, ADD [EBX], AL (SIB 63: index 4 = none, scale ignored). -/
theorem test_addEbGb :
    runs [0x00, 0x04, 0x63] { regs := [(.bx, 0x3000), (.sp, 0x999), (.ax, 0x1)], codeSize := .b32 }
    { mem := [(0x3000, 0x1)], eip := 0x103 } = true := by
  decide +kernel

/-- 95_test_vectors 2.4: `00 04 24`, ADD [ESP], AL (SIB 24: base ESP, no index). -/
theorem test_addEbGb_2 :
    runs [0x00, 0x04, 0x24]
    { regs := [(.sp, 0x100), (.ax, 0x1)], bases := [(.ss, 0x1000), (.ds, 0x2000)], codeSize := .b32 }
    { mem := [(0x2100, 0x1)], eip := 0x103 } = true := by
  decide +kernel

/-- 95_test_vectors 3.1: `04 10`, ADD AL, 0x10. -/
theorem test_addALIb_2 :
    runs [0x04, 0x10] { regs := [(.ax, 0xF5)] } { regs := [(.ax, 0x5)], flags := [.cf, .pf], eip := 0x102 }
    = true := by
  decide +kernel

/-- 95_test_vectors 3.1: `01 C8`, ADD AX, CX. -/
theorem test_addEvGv :
    runs [0x01, 0xC8] { regs := [(.ax, 0xFFFF), (.cx, 0x1)] }
    { regs := [(.ax, 0x0)], flags := [.cf, .pf, .af, .zf], eip := 0x102 } = true := by
  decide +kernel

/-- 95_test_vectors 3.1: `66 01 C8`, ADD EAX, ECX (66 in 16-bit code). -/
theorem test_addEvGv_2 :
    runs [0x66, 0x01, 0xC8] { regs := [(.ax, 0x7FFFFFFF), (.cx, 0x1)] }
    { regs := [(.ax, 0x80000000)], flags := [.pf, .af, .sf, .of], eip := 0x103 } = true := by
  decide +kernel

/-- 95_test_vectors 3.1: `05 00 80`, ADD AX, 0x8000. -/
theorem test_addEAXIz :
    runs [0x05, 0x00, 0x80] { regs := [(.ax, 0x8000)] }
    { regs := [(.ax, 0x0)], flags := [.cf, .pf, .zf, .of], eip := 0x103 } = true := by
  decide +kernel

/-- 95_test_vectors 3.1: `10 D8`, ADC AL, BL. -/
theorem test_adcEbGb :
    runs [0x10, 0xD8] { regs := [(.ax, 0xFF)], flags := [.cf] }
    { regs := [(.ax, 0x0)], flags := [.cf, .pf, .af, .zf], eip := 0x102 } = true := by
  decide +kernel

/-- 95_test_vectors 3.1: `10 D8`, ADC AL, BL. -/
theorem test_adcEbGb_2 :
    runs [0x10, 0xD8] { regs := [(.ax, 0x7F)], flags := [.cf] }
    { regs := [(.ax, 0x80)], flags := [.af, .sf, .of], eip := 0x102 } = true := by
  decide +kernel

/-- 95_test_vectors 3.1: `14 00`, ADC AL, 0x00. -/
theorem test_adcALIb :
    runs [0x14, 0x00] { regs := [(.ax, 0xF)] } { flags := [.pf], eip := 0x102 } = true := by
  decide +kernel

/-- 95_test_vectors 3.1: `18 D8`, SBB AL, BL. -/
theorem test_sbbEbGb :
    runs [0x18, 0xD8] { regs := [(.ax, 0x0)], flags := [.cf] }
    { regs := [(.ax, 0xFF)], flags := [.cf, .pf, .af, .sf], eip := 0x102 } = true := by
  decide +kernel

/-- 95_test_vectors 3.1: `18 D8`, SBB AL, BL. -/
theorem test_sbbEbGb_2 :
    runs [0x18, 0xD8] { regs := [(.ax, 0x80), (.bx, 0x7F)], flags := [.cf] }
    { regs := [(.ax, 0x0)], flags := [.pf, .af, .zf, .of], eip := 0x102 } = true := by
  decide +kernel

/-- 95_test_vectors 3.1: `28 D8`, SUB AL, BL. -/
theorem test_subEbGb :
    runs [0x28, 0xD8] { regs := [(.ax, 0x80), (.bx, 0x1)] }
    { regs := [(.ax, 0x7F)], flags := [.af, .of], eip := 0x102 } = true := by
  decide +kernel

/-- 95_test_vectors 3.1: `29 C0`, SUB AX, AX. -/
theorem test_subEvGv :
    runs [0x29, 0xC0] { regs := [(.ax, 0x1234)] } { regs := [(.ax, 0x0)], flags := [.pf, .zf], eip := 0x102 }
    = true := by
  decide +kernel

/-- 95_test_vectors 3.1: `2D 01 00 00 00`, SUB EAX, 1 (code32, 2D id). -/
theorem test_subEAXIz :
    runs [0x2D, 0x01, 0x00, 0x00, 0x00] { regs := [(.ax, 0x0)], codeSize := .b32 }
    { regs := [(.ax, 0xFFFFFFFF)], flags := [.cf, .pf, .af, .sf], eip := 0x105 } = true := by
  decide +kernel

/-- 95_test_vectors 3.1: `38 D8`, CMP AL, BL. -/
theorem test_cmpEbGb :
    runs [0x38, 0xD8] { regs := [(.ax, 0x1), (.bx, 0x2)] } { flags := [.cf, .pf, .af, .sf], eip := 0x102 }
    = true := by
  decide +kernel

/-- 95_test_vectors 3.1: `3C 80`, CMP AL, 0x80. -/
theorem test_cmpALIb :
    runs [0x3C, 0x80] { regs := [(.ax, 0x7F)] } { flags := [.cf, .pf, .sf, .of], eip := 0x102 } = true := by
  decide +kernel

/-- 95_test_vectors 3.1: `20 D8`, AND AL, BL. -/
theorem test_andEbGb :
    runs [0x20, 0xD8] { regs := [(.ax, 0xF0), (.bx, 0xF)], flags := [.cf, .of] }
    { regs := [(.ax, 0x0)], flags := [.pf, .zf], undefined := [.af], eip := 0x102 } = true := by
  decide +kernel

/-- 95_test_vectors 3.1: `0C 80`, OR AL, 0x80. -/
theorem test_orALIb :
    runs [0x0C, 0x80] { regs := [(.ax, 0x1)], flags := [.cf] }
    { regs := [(.ax, 0x81)], flags := [.pf, .sf], undefined := [.af], eip := 0x102 } = true := by
  decide +kernel

/-- 95_test_vectors 3.1: `31 C0`, XOR AX, AX. -/
theorem test_xorEvGv :
    runs [0x31, 0xC0] { regs := [(.ax, 0xBEEF)], flags := [.cf, .sf, .of] }
    { regs := [(.ax, 0x0)], flags := [.pf, .zf], undefined := [.af], eip := 0x102 } = true := by
  decide +kernel

/-- 95_test_vectors 3.1: `84 C0`, TEST AL, AL. -/
theorem test_testEbGb :
    runs [0x84, 0xC0] { regs := [(.ax, 0x80)], flags := [.cf, .of] }
    { flags := [.sf], undefined := [.af], eip := 0x102 } = true := by
  decide +kernel

/-- 95_test_vectors 3.1: `A8 01`, TEST AL, 0x01. -/
theorem test_testALIb :
    runs [0xA8, 0x01] { regs := [(.ax, 0x2)] } { flags := [.pf, .zf], undefined := [.af], eip := 0x102 }
    = true := by
  decide +kernel

/-- 95_test_vectors 3.1: `A9 00 80`, TEST AX, 0x8000. -/
theorem test_testEAXIz :
    runs [0xA9, 0x00, 0x80] { regs := [(.ax, 0x8001)] } { flags := [.pf, .sf], undefined := [.af], eip := 0x103 }
    = true := by
  decide +kernel

/-- 95_test_vectors 3.1: `80 C3 FF`, ADD BL, 0xFF (80 /0). -/
theorem test_addEbIb :
    runs [0x80, 0xC3, 0xFF] { regs := [(.bx, 0x1)] }
    { regs := [(.bx, 0x0)], flags := [.cf, .pf, .af, .zf], eip := 0x103 } = true := by
  decide +kernel

/-- 95_test_vectors 3.1: `81 C3 34 12`, ADD BX, 0x1234 (81 /0). -/
theorem test_addEvIz :
    runs [0x81, 0xC3, 0x34, 0x12] { regs := [(.bx, 0x1111)] } { regs := [(.bx, 0x2345)], eip := 0x104 } = true := by
  decide +kernel

/-- 95_test_vectors 3.1: `83 C3 FF`, ADD BX, -1 (83 /0, sign-extended). -/
theorem test_addEvIb :
    runs [0x83, 0xC3, 0xFF] { regs := [(.bx, 0x5)] } { regs := [(.bx, 0x4)], flags := [.cf, .af], eip := 0x103 }
    = true := by
  decide +kernel

/-- 95_test_vectors 3.1: `83 EC 08`, SUB ESP, 8 (83 /5, code32). -/
theorem test_subEvIb :
    runs [0x83, 0xEC, 0x08] { regs := [(.sp, 0x1000)], codeSize := .b32 }
    { regs := [(.sp, 0xFF8)], flags := [.af], eip := 0x103 } = true := by
  decide +kernel

/-- 95_test_vectors 3.1: `83 3F 05`, CMP WORD [BX], 5 (83 /7). -/
theorem test_cmpEvIb :
    runs [0x83, 0x3F, 0x05] { regs := [(.bx, 0x2000)], mem := [(0x2000, 0x5), (0x2001, 0x0)] }
    { flags := [.pf, .zf], eip := 0x103 } = true := by
  decide +kernel

/-- 95_test_vectors 3.1: `80 34 FF`, XOR BYTE [SI], 0xFF (80 /6). -/
theorem test_xorEbIb :
    runs [0x80, 0x34, 0xFF] { regs := [(.si, 0x3000)], mem := [(0x3000, 0xF)] }
    { mem := [(0x3000, 0xF0)], flags := [.pf, .sf], undefined := [.af], eip := 0x103 } = true := by
  decide +kernel

/-- 95_test_vectors 3.1: `02 07`, ADD AL, [BX] (02 /r). -/
theorem test_addGbEb_2 :
    runs [0x02, 0x07] { regs := [(.ax, 0x10), (.bx, 0x2000)], mem := [(0x2000, 0xF0)] }
    { regs := [(.ax, 0x0)], flags := [.cf, .pf, .zf], eip := 0x102 } = true := by
  decide +kernel

/-- 95_test_vectors 3.1: `82 C3 01`, 82 /0 ADD BL, 1, aliasPolicy = undefinedOpcode. -/
theorem test_addEbIb82 :
    runs [0x82, 0xC3, 0x01] { regs := [(.bx, 0x1)] } { status := .faulted (.fault 6), eip := 0x100 } = true := by
  decide +kernel

/-- 95_test_vectors 3.1: `82 C3 01`, 82 /0 ADD BL, 1, aliasPolicy = alias. -/
theorem test_addEbIb82_2 :
    runs [0x82, 0xC3, 0x01] { regs := [(.bx, 0x1)], aliasPolicy := .twin } { regs := [(.bx, 0x2)], eip := 0x103 }
    = true := by
  decide +kernel

/-- 95_test_vectors 3.1: `F6 C3 01`, TEST BL, 1 (F6 /0). -/
theorem test_testEbIb :
    runs [0xF6, 0xC3, 0x01] { regs := [(.bx, 0x3)] } { undefined := [.af], eip := 0x103 } = true := by
  decide +kernel

/-- 95_test_vectors 3.1: `F6 CB 01`, F6 /1 (alias of TEST), aliasPolicy = undefinedOpcode. -/
theorem test_testEbIbSlash1 :
    runs [0xF6, 0xCB, 0x01] { regs := [(.bx, 0x3)] } { status := .faulted (.fault 6), eip := 0x100 } = true := by
  decide +kernel

/-- 95_test_vectors 3.1: `F0 00 D8`, LOCK ADD AL, BL. -/
theorem test_refuseLockPrefix :
    runs [0xF0, 0x00, 0xD8] { regs := [(.ax, 0x1), (.bx, 0x1)] } { status := .refused .lockPrefix, eip := 0x100 }
    = true := by
  decide +kernel

/-- 95_test_vectors 3.2: `40`, INC AX (40). -/
theorem test_incZv :
    runs [0x40] { regs := [(.ax, 0x7FFF)], flags := [.cf] }
    { regs := [(.ax, 0x8000)], flags := [.cf, .pf, .af, .sf, .of], eip := 0x101 } = true := by
  decide +kernel

/-- 95_test_vectors 3.2: `40`, INC AX (40). -/
theorem test_incZv_2 :
    runs [0x40] { regs := [(.ax, 0xFFFF)] } { regs := [(.ax, 0x0)], flags := [.pf, .af, .zf], eip := 0x101 }
    = true := by
  decide +kernel

/-- 95_test_vectors 3.2: `49`, DEC CX (49). -/
theorem test_decZv :
    runs [0x49] { regs := [(.cx, 0x0)], flags := [.cf] }
    { regs := [(.cx, 0xFFFF)], flags := [.cf, .pf, .af, .sf], eip := 0x101 } = true := by
  decide +kernel

/-- 95_test_vectors 3.2: `49`, DEC ECX (49, code32). -/
theorem test_decZv_2 :
    runs [0x49] { regs := [(.cx, 0x1)], codeSize := .b32 }
    { regs := [(.cx, 0x0)], flags := [.pf, .zf], eip := 0x101 } = true := by
  decide +kernel

/-- 95_test_vectors 3.2: `FE C0`, INC AL (FE /0). -/
theorem test_incEb :
    runs [0xFE, 0xC0] { regs := [(.ax, 0xF)] } { regs := [(.ax, 0x10)], flags := [.af], eip := 0x102 } = true := by
  decide +kernel

/-- 95_test_vectors 3.2: `FE 0F`, DEC BYTE [BX] (FE /1). -/
theorem test_decEb :
    runs [0xFE, 0x0F] { regs := [(.bx, 0x2000)], mem := [(0x2000, 0x80)] }
    { mem := [(0x2000, 0x7F)], flags := [.af, .of], eip := 0x102 } = true := by
  decide +kernel

/-- 95_test_vectors 3.2: `FF 07`, INC WORD [BX] (FF /0). -/
theorem test_incEv :
    runs [0xFF, 0x07] { regs := [(.bx, 0x2000)], flags := [.cf], mem := [(0x2000, 0xFF), (0x2001, 0xFF)] }
    { mem := [(0x2000, 0x0), (0x2001, 0x0)], flags := [.cf, .pf, .af, .zf], eip := 0x102 } = true := by
  decide +kernel

/-- 95_test_vectors 3.2: `F6 D8`, NEG AL. -/
theorem test_negEb :
    runs [0xF6, 0xD8] { regs := [(.ax, 0x0)], flags := [.cf] } { flags := [.pf, .zf], eip := 0x102 } = true := by
  decide +kernel

/-- 95_test_vectors 3.2: `F6 D8`, NEG AL. -/
theorem test_negEb_2 :
    runs [0xF6, 0xD8] { regs := [(.ax, 0x80)] } { flags := [.cf, .sf, .of], eip := 0x102 } = true := by
  decide +kernel

/-- 95_test_vectors 3.2: `F7 D8`, NEG AX. -/
theorem test_negEv :
    runs [0xF7, 0xD8] { regs := [(.ax, 0x1)] }
    { regs := [(.ax, 0xFFFF)], flags := [.cf, .pf, .af, .sf], eip := 0x102 } = true := by
  decide +kernel

/-- 95_test_vectors 3.2: `F6 D0`, NOT AL. -/
theorem test_notEb :
    runs [0xF6, 0xD0] { regs := [(.ax, 0xF)], flags := [.cf, .zf] }
    { regs := [(.ax, 0xF0)], flags := [.cf, .zf], eip := 0x102 } = true := by
  decide +kernel

/-- 95_test_vectors 3.2: `F7 13`, NOT DWORD [EBX] (code32). -/
theorem test_notEv :
    runs [0xF7, 0x13]
    { regs := [(.bx, 0x2000)],
      mem := [(0x2000, 0x0), (0x2001, 0x0), (0x2002, 0x0), (0x2003, 0x80)], codeSize := .b32 }
    { mem := [(0x2000, 0xFF), (0x2001, 0xFF), (0x2002, 0xFF), (0x2003, 0x7F)], eip := 0x102 } = true := by
  decide +kernel

/-- 95_test_vectors 3.2: `FF F8`, FF /7 (undefined). -/
theorem test_undefinedFF7_2 :
    runs [0xFF, 0xF8] {} { status := .faulted (.fault 6), eip := 0x100 } = true := by
  decide +kernel

/-- 95_test_vectors 3.3: `F6 E3`, MUL BL. -/
theorem test_mulEb :
    runs [0xF6, 0xE3] { regs := [(.ax, 0x80), (.bx, 0x2)] }
    { regs := [(.ax, 0x100)], flags := [.cf, .of], undefined := [.pf, .af, .zf, .sf], eip := 0x102 } = true := by
  decide +kernel

/-- 95_test_vectors 3.3: `F6 E3`, MUL BL. -/
theorem test_mulEb_2 :
    runs [0xF6, 0xE3] { regs := [(.ax, 0x10), (.bx, 0xF)] }
    { regs := [(.ax, 0xF0)], undefined := [.pf, .af, .zf, .sf], eip := 0x102 } = true := by
  decide +kernel

/-- 95_test_vectors 3.3: `F7 E3`, MUL BX. -/
theorem test_mulEv :
    runs [0xF7, 0xE3] { regs := [(.ax, 0x1234), (.bx, 0x100)] }
    { regs := [(.ax, 0x3400), (.dx, 0x12)], flags := [.cf, .of], undefined := [.pf, .af, .zf, .sf], eip := 0x102 }
    = true := by
  decide +kernel

/-- 95_test_vectors 3.3: `F7 E3`, MUL EBX (code32). -/
theorem test_mulEv_2 :
    runs [0xF7, 0xE3] { regs := [(.ax, 0xFFFFFFFF), (.bx, 0xFFFFFFFF)], codeSize := .b32 }
    { regs := [(.ax, 0x1), (.dx, 0xFFFFFFFE)], flags := [.cf, .of], undefined := [.pf, .af, .zf, .sf], eip := 0x102 }
    = true := by
  decide +kernel

/-- 95_test_vectors 3.3: `F6 EB`, IMUL BL. -/
theorem test_imulEb :
    runs [0xF6, 0xEB] { regs := [(.ax, 0xFF), (.bx, 0x2)] }
    { regs := [(.ax, 0xFFFE)], undefined := [.pf, .af, .zf, .sf], eip := 0x102 } = true := by
  decide +kernel

/-- 95_test_vectors 3.3: `F6 EB`, IMUL BL. -/
theorem test_imulEb_2 :
    runs [0xF6, 0xEB] { regs := [(.ax, 0x40), (.bx, 0x2)] }
    { regs := [(.ax, 0x80)], flags := [.cf, .of], undefined := [.pf, .af, .zf, .sf], eip := 0x102 } = true := by
  decide +kernel

/-- 95_test_vectors 3.3: `0F AF C3`, IMUL AX, BX (0F AF). -/
theorem test_imulGvEv :
    runs [0x0F, 0xAF, 0xC3] { regs := [(.ax, 0x4000), (.bx, 0x2)] }
    { regs := [(.ax, 0x8000)], flags := [.cf, .of], undefined := [.pf, .af, .zf, .sf], eip := 0x103 } = true := by
  decide +kernel

/-- 95_test_vectors 3.3: `0F AF C3`, IMUL AX, BX (0F AF). -/
theorem test_imulGvEv_2 :
    runs [0x0F, 0xAF, 0xC3] { regs := [(.ax, 0xFFFF), (.bx, 0xFFFF)] }
    { regs := [(.ax, 0x1)], undefined := [.pf, .af, .zf, .sf], eip := 0x103 } = true := by
  decide +kernel

/-- 95_test_vectors 3.3: `6B C3 FD`, IMUL AX, BX, -3 (6B). -/
theorem test_imulGvEvIb :
    runs [0x6B, 0xC3, 0xFD] { regs := [(.bx, 0x10)] }
    { regs := [(.ax, 0xFFD0)], undefined := [.pf, .af, .zf, .sf], eip := 0x103 } = true := by
  decide +kernel

/-- 95_test_vectors 3.3: `69 47 02 10 00`, IMUL AX, [BX+2], 0x10 (69). -/
theorem test_imulGvEvIz :
    runs [0x69, 0x47, 0x02, 0x10, 0x00] { regs := [(.bx, 0x2000)], mem := [(0x2002, 0x0), (0x2003, 0x10)] }
    { flags := [.cf, .of], undefined := [.pf, .af, .zf, .sf], eip := 0x105 } = true := by
  decide +kernel

/-- 95_test_vectors 3.3: `F6 F3`, DIV BL. -/
theorem test_divEb :
    runs [0xF6, 0xF3] { regs := [(.ax, 0x107), (.bx, 0x10)] }
    { regs := [(.ax, 0x710)], undefined := [.cf, .pf, .af, .zf, .sf, .of], eip := 0x102 } = true := by
  decide +kernel

/-- 95_test_vectors 3.3: `F6 F3`, DIV BL. -/
theorem test_divEb_2 :
    runs [0xF6, 0xF3] { regs := [(.ax, 0x1000), (.bx, 0x10)] } { status := .faulted (.fault 0), eip := 0x100 }
    = true := by
  decide +kernel

/-- 95_test_vectors 3.3: `F7 F3`, DIV BX. -/
theorem test_divEv :
    runs [0xF7, 0xF3] { regs := [(.ax, 0x5), (.dx, 0x1), (.bx, 0x2)] }
    { regs := [(.ax, 0x8002)], undefined := [.cf, .pf, .af, .zf, .sf, .of], eip := 0x102 } = true := by
  decide +kernel

/-- 95_test_vectors 3.3: `F6 FB`, IDIV BL. -/
theorem test_idivEb :
    runs [0xF6, 0xFB] { regs := [(.ax, 0xFFF9), (.bx, 0x2)] }
    { regs := [(.ax, 0xFFFD)], undefined := [.cf, .pf, .af, .zf, .sf, .of], eip := 0x102 } = true := by
  decide +kernel

/-- 95_test_vectors 3.3: `F6 FB`, IDIV BL. -/
theorem test_idivEb_2 :
    runs [0xF6, 0xFB] { regs := [(.ax, 0xFF80), (.bx, 0x1)] }
    { regs := [(.ax, 0x80)], undefined := [.cf, .pf, .af, .zf, .sf, .of], eip := 0x102 } = true := by
  decide +kernel

/-- 95_test_vectors 3.3: `F7 F9`, IDIV ECX (code32). -/
theorem test_idivEv :
    runs [0xF7, 0xF9] { regs := [(.ax, 0xFFFFFFF6), (.dx, 0xFFFFFFFF), (.cx, 0x3)], codeSize := .b32 }
    { regs := [(.ax, 0xFFFFFFFD)], undefined := [.cf, .pf, .af, .zf, .sf, .of], eip := 0x102 } = true := by
  decide +kernel

/-- 95_test_vectors 3.4: `D0 E0`, SHL AL, 1 (D0 /4). -/
theorem test_shlEb1 :
    runs [0xD0, 0xE0] { regs := [(.ax, 0x81)] }
    { regs := [(.ax, 0x2)], flags := [.cf, .of], undefined := [.af], eip := 0x102 } = true := by
  decide +kernel

/-- 95_test_vectors 3.4: `D2 E0`, SHL AL, CL (count 0x20 masks to 0). -/
theorem test_shlEbCL :
    runs [0xD2, 0xE0] { regs := [(.ax, 0x81), (.cx, 0x20)], flags := [.zf] } { flags := [.zf], eip := 0x102 }
    = true := by
  decide +kernel

/-- 95_test_vectors 3.4: `C0 E8 04`, SHR AL, 4 (C0 /5). -/
theorem test_shrEbIb_2 :
    runs [0xC0, 0xE8, 0x04] { regs := [(.ax, 0xF8)] }
    { regs := [(.ax, 0xF)], flags := [.cf, .pf], undefined := [.af, .of], eip := 0x103 } = true := by
  decide +kernel

/-- 95_test_vectors 3.4: `D0 E8`, SHR AL, 1. -/
theorem test_shrEb1 :
    runs [0xD0, 0xE8] { regs := [(.ax, 0x81)] }
    { regs := [(.ax, 0x40)], flags := [.cf, .of], undefined := [.af], eip := 0x102 } = true := by
  decide +kernel

/-- 95_test_vectors 3.4: `D1 F8`, SAR AX, 1 (D1 /7). -/
theorem test_sarEv1 :
    runs [0xD1, 0xF8] { regs := [(.ax, 0x8001)] }
    { regs := [(.ax, 0xC000)], flags := [.cf, .pf, .sf], undefined := [.af], eip := 0x102 } = true := by
  decide +kernel

/-- 95_test_vectors 3.4: `D2 F8`, SAR AL, CL (CL=8). -/
theorem test_sarEbCL :
    runs [0xD2, 0xF8] { regs := [(.ax, 0x80), (.cx, 0x8)] }
    { regs := [(.ax, 0xFF)], flags := [.cf, .pf, .sf], undefined := [.af, .of], eip := 0x102 } = true := by
  decide +kernel

/-- 95_test_vectors 3.4: `D3 E0`, SHL AX, CL (CL=16). -/
theorem test_shlEvCL :
    runs [0xD3, 0xE0] { regs := [(.ax, 0xFFFF), (.cx, 0x10)] }
    { regs := [(.ax, 0x0)], flags := [.pf, .zf], undefined := [.cf, .af, .of], eip := 0x102 } = true := by
  decide +kernel

/-- 95_test_vectors 3.4: `D3 E0`, SHL EAX, CL (code32, CL=31). -/
theorem test_shlEvCL_2 :
    runs [0xD3, 0xE0] { regs := [(.ax, 0x3), (.cx, 0x1F)], codeSize := .b32 }
    { regs := [(.ax, 0x80000000)], flags := [.cf, .pf, .sf], undefined := [.af, .of], eip := 0x102 } = true := by
  decide +kernel

/-- 95_test_vectors 3.4: `C1 E8 21`, SHR EAX, 0x21 (code32, count 1). -/
theorem test_shrEvIb :
    runs [0xC1, 0xE8, 0x21] { regs := [(.ax, 0x80000001)], codeSize := .b32 }
    { regs := [(.ax, 0x40000000)], flags := [.cf, .pf, .of], undefined := [.af], eip := 0x103 } = true := by
  decide +kernel

/-- 95_test_vectors 3.4: `D2 C0`, ROL AL, CL (CL=4). -/
theorem test_rolEbCL :
    runs [0xD2, 0xC0] { regs := [(.ax, 0x12), (.cx, 0x4)] }
    { regs := [(.ax, 0x21)], flags := [.cf], undefined := [.of], eip := 0x102 } = true := by
  decide +kernel

/-- 95_test_vectors 3.4: `D2 C0`, ROL AL, CL (CL=8). -/
theorem test_rolEbCL_2 :
    runs [0xD2, 0xC0] { regs := [(.ax, 0x81), (.cx, 0x8)] } { flags := [.cf], undefined := [.of], eip := 0x102 }
    = true := by
  decide +kernel

/-- 95_test_vectors 3.4: `D0 C0`, ROL AL, 1. -/
theorem test_rolEb1 :
    runs [0xD0, 0xC0] { regs := [(.ax, 0x40)] } { regs := [(.ax, 0x80)], flags := [.of], eip := 0x102 } = true := by
  decide +kernel

/-- 95_test_vectors 3.4: `D0 C8`, ROR AL, 1. -/
theorem test_rorEb1 :
    runs [0xD0, 0xC8] { regs := [(.ax, 0x1)] } { regs := [(.ax, 0x80)], flags := [.cf, .of], eip := 0x102 }
    = true := by
  decide +kernel

/-- 95_test_vectors 3.4: `D3 C8`, ROR AX, CL (CL=4). -/
theorem test_rorEvCL :
    runs [0xD3, 0xC8] { regs := [(.ax, 0x1234), (.cx, 0x4)] }
    { regs := [(.ax, 0x4123)], undefined := [.of], eip := 0x102 } = true := by
  decide +kernel

/-- 95_test_vectors 3.4: `D0 D0`, RCL AL, 1. -/
theorem test_rclEb1 :
    runs [0xD0, 0xD0] { regs := [(.ax, 0x80)] } { regs := [(.ax, 0x0)], flags := [.cf, .of], eip := 0x102 }
    = true := by
  decide +kernel

/-- 95_test_vectors 3.4: `D2 D0`, RCL AL, CL (CL=9). -/
theorem test_rclEbCL :
    runs [0xD2, 0xD0] { regs := [(.ax, 0x55), (.cx, 0x9)], flags := [.cf] }
    { flags := [.cf], undefined := [.of], eip := 0x102 } = true := by
  decide +kernel

/-- 95_test_vectors 3.4: `D0 D8`, RCR AL, 1. -/
theorem test_rcrEb1 :
    runs [0xD0, 0xD8] { regs := [(.ax, 0x1)], flags := [.cf] }
    { regs := [(.ax, 0x80)], flags := [.cf, .of], eip := 0x102 } = true := by
  decide +kernel

/-- 95_test_vectors 3.4: `D3 D8`, RCR AX, CL (CL=17). -/
theorem test_rcrEvCL :
    runs [0xD3, 0xD8] { regs := [(.ax, 0x1234), (.cx, 0x11)] } { undefined := [.of], eip := 0x102 } = true := by
  decide +kernel

/-- 95_test_vectors 3.4: `D1 27`, SHL WORD [BX], 1 (D1 /4 memory). -/
theorem test_shlEv1 :
    runs [0xD1, 0x27] { regs := [(.bx, 0x2000)], mem := [(0x2000, 0x1), (0x2001, 0x80)] }
    { mem := [(0x2000, 0x2), (0x2001, 0x0)], flags := [.cf, .of], undefined := [.af], eip := 0x102 } = true := by
  decide +kernel

/-- 95_test_vectors 3.4: `D0 F0`, D0 /6, aliasPolicy = alias (as SHL). -/
theorem test_shlEb1Slash6 :
    runs [0xD0, 0xF0] { regs := [(.ax, 0x81)], aliasPolicy := .twin }
    { regs := [(.ax, 0x2)], flags := [.cf, .of], undefined := [.af], eip := 0x102 } = true := by
  decide +kernel

/-- 95_test_vectors 3.4: `D0 F0`, D0 /6, aliasPolicy = undefinedOpcode. -/
theorem test_shlEb1Slash6_2 :
    runs [0xD0, 0xF0] { regs := [(.ax, 0x81)] } { status := .faulted (.fault 6), eip := 0x100 } = true := by
  decide +kernel

/-- 95_test_vectors 3.5: `F8`, CLC. -/
theorem test_clc :
    runs [0xF8] { flags := [.cf, .zf] } { flags := [.zf], eip := 0x101 } = true := by
  decide +kernel

/-- 95_test_vectors 3.5: `F9`, STC. -/
theorem test_stc :
    runs [0xF9] {} { flags := [.cf], eip := 0x101 } = true := by
  decide +kernel

/-- 95_test_vectors 3.5: `F5`, CMC. -/
theorem test_cmc :
    runs [0xF5] { flags := [.cf] } { eip := 0x101 } = true := by
  decide +kernel

/-- 95_test_vectors 3.5: `F5`, CMC (CF=0). -/
theorem test_cmc_2 :
    runs [0xF5] {} { flags := [.cf], eip := 0x101 } = true := by
  decide +kernel

/-- 95_test_vectors 3.5: `9F`, LAHF. -/
theorem test_lahf :
    runs [0x9F] { regs := [(.ax, 0x1234)], flags := [.cf, .pf, .zf, .of] }
    { regs := [(.ax, 0x4734)], flags := [.cf, .pf, .zf, .of], eip := 0x101 } = true := by
  decide +kernel

/-- 95_test_vectors 3.5: `9E`, SAHF. -/
theorem test_sahf :
    runs [0x9E] { regs := [(.ax, 0xD500)], flags := [.of] }
    { flags := [.cf, .pf, .af, .zf, .sf, .of], eip := 0x101 } = true := by
  decide +kernel

/-- 95_test_vectors 3.5: `9E`, SAHF. -/
theorem test_sahf_2 :
    runs [0x9E] { regs := [(.ax, 0x2A00)], flags := [.cf, .pf, .af, .zf, .sf] } { eip := 0x101 } = true := by
  decide +kernel

/-- 95_test_vectors 3.5: `74 10`, JZ +0x10 (74), ZF=1. -/
theorem test_jeJb :
    runs [0x74, 0x10] { flags := [.zf] } { flags := [.zf], eip := 0x112 } = true := by
  decide +kernel

/-- 95_test_vectors 3.5: `74 10`, JZ +0x10 (74), ZF=0. -/
theorem test_jeJb_2 :
    runs [0x74, 0x10] {} { eip := 0x102 } = true := by
  decide +kernel

/-- 95_test_vectors 3.5: `75 FC`, JNZ -4 (75 FC) at 0x0001. -/
theorem test_jneJb :
    runs [0x75, 0xFC] { eip := 0x1 } { eip := 0xFFFF } = true := by
  decide +kernel

/-- 95_test_vectors 3.5: `7C 05`, JL (7C), SF=1 OF=0. -/
theorem test_jlJb :
    runs [0x7C, 0x05] { flags := [.sf] } { flags := [.sf], eip := 0x107 } = true := by
  decide +kernel

/-- 95_test_vectors 3.5: `7C 05`, JL (7C), SF=1 OF=1. -/
theorem test_jlJb_2 :
    runs [0x7C, 0x05] { flags := [.sf, .of] } { flags := [.sf, .of], eip := 0x102 } = true := by
  decide +kernel

/-- 95_test_vectors 3.5: `7F 05`, JG (7F), ZF=0 SF=OF. -/
theorem test_jgJb :
    runs [0x7F, 0x05] { flags := [.sf, .of] } { flags := [.sf, .of], eip := 0x107 } = true := by
  decide +kernel

/-- 95_test_vectors 3.5: `76 05`, JBE (76), CF=0 ZF=1. -/
theorem test_jbeJb :
    runs [0x76, 0x05] { flags := [.zf] } { flags := [.zf], eip := 0x107 } = true := by
  decide +kernel

/-- 95_test_vectors 3.5: `77 05`, JA (77), CF=0 ZF=0. -/
theorem test_jaJb :
    runs [0x77, 0x05] {} { eip := 0x107 } = true := by
  decide +kernel

/-- 95_test_vectors 3.5: `7A 05`, JP (7A), PF=1. -/
theorem test_jpJb :
    runs [0x7A, 0x05] { flags := [.pf] } { flags := [.pf], eip := 0x107 } = true := by
  decide +kernel

/-- 95_test_vectors 3.5: `0F 80 00 10`, JO rel16 (0F 80). -/
theorem test_joJz :
    runs [0x0F, 0x80, 0x00, 0x10] { flags := [.of], eip := 0xF000 } { flags := [.of], eip := 0x4 } = true := by
  decide +kernel

/-- 95_test_vectors 3.5: `0F 84 00 10`, JE rel16 at F000 (16-bit wrap). -/
theorem test_jeJz :
    runs [0x0F, 0x84, 0x00, 0x10] { flags := [.zf], eip := 0xF000 } { flags := [.zf], eip := 0x4 } = true := by
  decide +kernel

/-- 95_test_vectors 3.5: `0F 8C 10 00 00 00`, JL rel32 (code32, 0F 8C). -/
theorem test_jlJz :
    runs [0x0F, 0x8C, 0x10, 0x00, 0x00, 0x00] { flags := [.sf], eip := 0x1000, codeSize := .b32 }
    { flags := [.sf], eip := 0x1016 } = true := by
  decide +kernel

/-- 95_test_vectors 3.5: `0F 94 C0`, SETE AL. -/
theorem test_seteEb :
    runs [0x0F, 0x94, 0xC0] { regs := [(.ax, 0x55)], flags := [.zf] }
    { regs := [(.ax, 0x1)], flags := [.zf], eip := 0x103 } = true := by
  decide +kernel

/-- 95_test_vectors 3.5: `0F 95 07`, SETNE BYTE [BX]. -/
theorem test_setneEb :
    runs [0x0F, 0x95, 0x07] { regs := [(.bx, 0x2000)], flags := [.zf], mem := [(0x2000, 0x77)] }
    { mem := [(0x2000, 0x0)], flags := [.zf], eip := 0x103 } = true := by
  decide +kernel

/-- 95_test_vectors 3.5: `0F 92 EC`, SETB AH, reg field 5 (ignored). -/
theorem test_setbEb :
    runs [0x0F, 0x92, 0xEC] { regs := [(.ax, 0xFFFF)], flags := [.cf] }
    { regs := [(.ax, 0x1FF)], flags := [.cf], eip := 0x103 } = true := by
  decide +kernel

/-- 95_test_vectors 3.5: `0F 9F C1`, SETG CL. -/
theorem test_setgEb :
    runs [0x0F, 0x9F, 0xC1] { regs := [(.cx, 0x12)] } { regs := [(.cx, 0x1)], eip := 0x103 } = true := by
  decide +kernel

/-- 95_test_vectors 3.6: `E4 60`, IN AL, 0x60. -/
theorem test_inALIb :
    runs [0xE4, 0x60] {} { drawn := [.ax], eip := 0x102 } = true := by
  decide +kernel

/-- 95_test_vectors 3.6: `ED`, IN AX, DX. -/
theorem test_inEAXDX :
    runs [0xED] { regs := [(.dx, 0x3F8)] } { drawn := [.ax], eip := 0x101 } = true := by
  decide +kernel

/-- 95_test_vectors 3.6: `EE`, OUT DX, AL. -/
theorem test_outDXAL :
    runs [0xEE] { regs := [(.dx, 0x3F8), (.ax, 0x41)] } { eip := 0x101 } = true := by
  decide +kernel

/-- 95_test_vectors 3.6: `E7 80`, OUT 0x80, AX. -/
theorem test_outIbEAX :
    runs [0xE7, 0x80] { regs := [(.ax, 0x1234)] } { eip := 0x102 } = true := by
  decide +kernel

/-- 95_test_vectors 3.6: `66 E5 60`, IN EAX, 0x60 (66 in 16-bit code). -/
theorem test_inEAXIb :
    runs [0x66, 0xE5, 0x60] {} { status := .refused .port32, eip := 0x100 } = true := by
  decide +kernel

/-- 95_test_vectors 3.6: `EF`, OUT DX, EAX (code32). -/
theorem test_outDXEAX :
    runs [0xEF] { regs := [(.dx, 0x3F8)], codeSize := .b32 } { status := .refused .port32, eip := 0x100 }
    = true := by
  decide +kernel

/-- 95_test_vectors 3.6: `CC`, INT3. -/
theorem test_int3 :
    runs [0xCC] {} { status := .trapped (.softInt 3), eip := 0x101 } = true := by
  decide +kernel

/-- 95_test_vectors 3.6: `CD 21`, INT 0x21. -/
theorem test_intIb :
    runs [0xCD, 0x21] { regs := [(.ax, 0x4C00)] } { status := .trapped (.softInt 33), eip := 0x102 } = true := by
  decide +kernel

/-- 95_test_vectors 3.6: `CE`, INTO, OF=1. -/
theorem test_into :
    runs [0xCE] { flags := [.of] } { status := .trapped (.softInt 4), flags := [.of], eip := 0x101 } = true := by
  decide +kernel

/-- 95_test_vectors 3.6: `CE`, INTO, OF=0. -/
theorem test_into_2 :
    runs [0xCE] {} { eip := 0x101 } = true := by
  decide +kernel

/-- 95_test_vectors 3.7: `26 3E 00 07`, ES DS ADD [BX], AL (two overrides). -/
theorem test_refuseMultipleSegmentOverrides :
    runs [0x26, 0x3E, 0x00, 0x07] { regs := [(.bx, 0x10), (.ax, 0x1)] }
    { status := .refused .multipleSegmentOverrides, eip := 0x100 } = true := by
  decide +kernel

/-- 95_test_vectors 3.7: `66 66 66 66 66 66 66 66 66 66 66 66 66 66 66 00 D8`, 15 x 66 then ADD AL, BL (16th byte). -/
theorem test_refuseTooLong :
    runs [0x66, 0x66, 0x66, 0x66, 0x66, 0x66, 0x66, 0x66, 0x66, 0x66, 0x66, 0x66, 0x66, 0x66, 0x66, 0x00, 0xD8]
    { regs := [(.ax, 0x1), (.bx, 0x1)] } { status := .refused .tooLong, eip := 0x100 } = true := by
  decide +kernel

/-- 95_test_vectors 3.7: `F3 00 D8`, REP ADD AL, BL. -/
theorem test_refuseRepPrefix :
    runs [0xF3, 0x00, 0xD8] {} { status := .refused .repPrefix, eip := 0x100 } = true := by
  decide +kernel

/-! ### Decoding: one word of every row, written out from 30_encoding R310, R316 and R355-R372 -/

/-- 16-bit code with an alias policy. -/
def code16 (p : AliasPolicy) : Mode := { codeSize := .b16, aliasPolicy := p }

/-- A head without prefixes in 16-bit code. -/
def head16 (n : Nat) : Head := { prefixes := [], opSize := .b16, addrSize := .b16, len := n }

/-- `[BX+5]`: `mod = 1`, `rm = 7`, displacement `05` (30_encoding R315, R316). -/
def bx5 : EOperand := .mem16 .bx (.d8 5)

/-- Every word decodes to its instruction, and the instruction encodes to the word. -/
def decodes (p : AliasPolicy) (l : List (List Byte × (Head → Instr))) : Bool :=
  l.all fun x =>
    let i := x.2 (head16 x.1.length)
    decode (code16 p) x.1 == { outcome := .instr i, len := x.1.length } && encode i == x.1
      && i.wellFormed (code16 p)

theorem test_decodeAdd : decodes .undefinedOpcode
    [ ([0x00, 0x57, 0x05], (.addEbGb · .dx bx5)),
      ([0x01, 0x57, 0x05], (.addEvGv · .dx bx5)),
      ([0x02, 0x57, 0x05], (.addGbEb · .dx bx5)),
      ([0x03, 0x57, 0x05], (.addGvEv · .dx bx5)),
      ([0x04, 0x80], (.addALIb · 0x80)),
      ([0x05, 0x34, 0x82], (.addEAXIz · 0x8234)),
      ([0x80, 0x47, 0x05, 0x80], (.addEbIb · bx5 0x80)),
      ([0x81, 0x47, 0x05, 0x34, 0x82], (.addEvIz · bx5 0x8234)),
      ([0x83, 0x47, 0x05, 0x80], (.addEvIb · bx5 0x80)) ] = true := by
  decide +kernel

theorem test_decodeOr : decodes .undefinedOpcode
    [ ([0x08, 0x57, 0x05], (.orEbGb · .dx bx5)),
      ([0x09, 0x57, 0x05], (.orEvGv · .dx bx5)),
      ([0x0A, 0x57, 0x05], (.orGbEb · .dx bx5)),
      ([0x0B, 0x57, 0x05], (.orGvEv · .dx bx5)),
      ([0x0C, 0x80], (.orALIb · 0x80)),
      ([0x0D, 0x34, 0x82], (.orEAXIz · 0x8234)),
      ([0x80, 0x4F, 0x05, 0x80], (.orEbIb · bx5 0x80)),
      ([0x81, 0x4F, 0x05, 0x34, 0x82], (.orEvIz · bx5 0x8234)),
      ([0x83, 0x4F, 0x05, 0x80], (.orEvIb · bx5 0x80)) ] = true := by
  decide +kernel

theorem test_decodeAdc : decodes .undefinedOpcode
    [ ([0x10, 0x57, 0x05], (.adcEbGb · .dx bx5)),
      ([0x11, 0x57, 0x05], (.adcEvGv · .dx bx5)),
      ([0x12, 0x57, 0x05], (.adcGbEb · .dx bx5)),
      ([0x13, 0x57, 0x05], (.adcGvEv · .dx bx5)),
      ([0x14, 0x80], (.adcALIb · 0x80)),
      ([0x15, 0x34, 0x82], (.adcEAXIz · 0x8234)),
      ([0x80, 0x57, 0x05, 0x80], (.adcEbIb · bx5 0x80)),
      ([0x81, 0x57, 0x05, 0x34, 0x82], (.adcEvIz · bx5 0x8234)),
      ([0x83, 0x57, 0x05, 0x80], (.adcEvIb · bx5 0x80)) ] = true := by
  decide +kernel

theorem test_decodeSbb : decodes .undefinedOpcode
    [ ([0x18, 0x57, 0x05], (.sbbEbGb · .dx bx5)),
      ([0x19, 0x57, 0x05], (.sbbEvGv · .dx bx5)),
      ([0x1A, 0x57, 0x05], (.sbbGbEb · .dx bx5)),
      ([0x1B, 0x57, 0x05], (.sbbGvEv · .dx bx5)),
      ([0x1C, 0x80], (.sbbALIb · 0x80)),
      ([0x1D, 0x34, 0x82], (.sbbEAXIz · 0x8234)),
      ([0x80, 0x5F, 0x05, 0x80], (.sbbEbIb · bx5 0x80)),
      ([0x81, 0x5F, 0x05, 0x34, 0x82], (.sbbEvIz · bx5 0x8234)),
      ([0x83, 0x5F, 0x05, 0x80], (.sbbEvIb · bx5 0x80)) ] = true := by
  decide +kernel

theorem test_decodeAnd : decodes .undefinedOpcode
    [ ([0x20, 0x57, 0x05], (.andEbGb · .dx bx5)),
      ([0x21, 0x57, 0x05], (.andEvGv · .dx bx5)),
      ([0x22, 0x57, 0x05], (.andGbEb · .dx bx5)),
      ([0x23, 0x57, 0x05], (.andGvEv · .dx bx5)),
      ([0x24, 0x80], (.andALIb · 0x80)),
      ([0x25, 0x34, 0x82], (.andEAXIz · 0x8234)),
      ([0x80, 0x67, 0x05, 0x80], (.andEbIb · bx5 0x80)),
      ([0x81, 0x67, 0x05, 0x34, 0x82], (.andEvIz · bx5 0x8234)),
      ([0x83, 0x67, 0x05, 0x80], (.andEvIb · bx5 0x80)) ] = true := by
  decide +kernel

theorem test_decodeSub : decodes .undefinedOpcode
    [ ([0x28, 0x57, 0x05], (.subEbGb · .dx bx5)),
      ([0x29, 0x57, 0x05], (.subEvGv · .dx bx5)),
      ([0x2A, 0x57, 0x05], (.subGbEb · .dx bx5)),
      ([0x2B, 0x57, 0x05], (.subGvEv · .dx bx5)),
      ([0x2C, 0x80], (.subALIb · 0x80)),
      ([0x2D, 0x34, 0x82], (.subEAXIz · 0x8234)),
      ([0x80, 0x6F, 0x05, 0x80], (.subEbIb · bx5 0x80)),
      ([0x81, 0x6F, 0x05, 0x34, 0x82], (.subEvIz · bx5 0x8234)),
      ([0x83, 0x6F, 0x05, 0x80], (.subEvIb · bx5 0x80)) ] = true := by
  decide +kernel

theorem test_decodeXor : decodes .undefinedOpcode
    [ ([0x30, 0x57, 0x05], (.xorEbGb · .dx bx5)),
      ([0x31, 0x57, 0x05], (.xorEvGv · .dx bx5)),
      ([0x32, 0x57, 0x05], (.xorGbEb · .dx bx5)),
      ([0x33, 0x57, 0x05], (.xorGvEv · .dx bx5)),
      ([0x34, 0x80], (.xorALIb · 0x80)),
      ([0x35, 0x34, 0x82], (.xorEAXIz · 0x8234)),
      ([0x80, 0x77, 0x05, 0x80], (.xorEbIb · bx5 0x80)),
      ([0x81, 0x77, 0x05, 0x34, 0x82], (.xorEvIz · bx5 0x8234)),
      ([0x83, 0x77, 0x05, 0x80], (.xorEvIb · bx5 0x80)) ] = true := by
  decide +kernel

theorem test_decodeCmp : decodes .undefinedOpcode
    [ ([0x38, 0x57, 0x05], (.cmpEbGb · .dx bx5)),
      ([0x39, 0x57, 0x05], (.cmpEvGv · .dx bx5)),
      ([0x3A, 0x57, 0x05], (.cmpGbEb · .dx bx5)),
      ([0x3B, 0x57, 0x05], (.cmpGvEv · .dx bx5)),
      ([0x3C, 0x80], (.cmpALIb · 0x80)),
      ([0x3D, 0x34, 0x82], (.cmpEAXIz · 0x8234)),
      ([0x80, 0x7F, 0x05, 0x80], (.cmpEbIb · bx5 0x80)),
      ([0x81, 0x7F, 0x05, 0x34, 0x82], (.cmpEvIz · bx5 0x8234)),
      ([0x83, 0x7F, 0x05, 0x80], (.cmpEvIb · bx5 0x80)) ] = true := by
  decide +kernel

theorem test_decodeUnary : decodes .undefinedOpcode
    [ ([0x46], (.incZv · .si)),
      ([0x4E], (.decZv · .si)),
      ([0xF6, 0x57, 0x05], (.notEb · bx5)),
      ([0xF6, 0x5F, 0x05], (.negEb · bx5)),
      ([0xF7, 0x57, 0x05], (.notEv · bx5)),
      ([0xF7, 0x5F, 0x05], (.negEv · bx5)),
      ([0xFE, 0x47, 0x05], (.incEb · bx5)),
      ([0xFE, 0x4F, 0x05], (.decEb · bx5)),
      ([0xFF, 0x47, 0x05], (.incEv · bx5)),
      ([0xFF, 0x4F, 0x05], (.decEv · bx5)) ] = true := by
  decide +kernel

theorem test_decodeAliasTwin : decodes .twin
    [ ([0x82, 0x47, 0x05, 0x80], (.addEbIb82 · (.twin (bx5, 0x80)))),
      ([0x82, 0x4F, 0x05, 0x80], (.orEbIb82 · (.twin (bx5, 0x80)))),
      ([0x82, 0x57, 0x05, 0x80], (.adcEbIb82 · (.twin (bx5, 0x80)))),
      ([0x82, 0x5F, 0x05, 0x80], (.sbbEbIb82 · (.twin (bx5, 0x80)))),
      ([0x82, 0x67, 0x05, 0x80], (.andEbIb82 · (.twin (bx5, 0x80)))),
      ([0x82, 0x6F, 0x05, 0x80], (.subEbIb82 · (.twin (bx5, 0x80)))),
      ([0x82, 0x77, 0x05, 0x80], (.xorEbIb82 · (.twin (bx5, 0x80)))),
      ([0x82, 0x7F, 0x05, 0x80], (.cmpEbIb82 · (.twin (bx5, 0x80)))),
      ([0xF6, 0x4F, 0x05, 0x80], (.testEbIbSlash1 · (.twin (bx5, 0x80)))),
      ([0xF7, 0x4F, 0x05, 0x34, 0x82], (.testEvIzSlash1 · (.twin (bx5, 0x8234)))),
      ([0xC0, 0x77, 0x05, 0x80], (.shlEbIbSlash6 · (.twin (bx5, 0x80)))),
      ([0xC1, 0x77, 0x05, 0x80], (.shlEvIbSlash6 · (.twin (bx5, 0x80)))),
      ([0xD0, 0x77, 0x05], (.shlEb1Slash6 · (.twin bx5))),
      ([0xD1, 0x77, 0x05], (.shlEv1Slash6 · (.twin bx5))),
      ([0xD2, 0x77, 0x05], (.shlEbCLSlash6 · (.twin bx5))),
      ([0xD3, 0x77, 0x05], (.shlEvCLSlash6 · (.twin bx5))) ] = true := by
  decide +kernel

theorem test_decodeAliasUndefined : decodes .undefinedOpcode
    [ ([0x82, 0x47], (.addEbIb82 · (.undefinedOpcode { mod := 1, rm := 7 }))),
      ([0x82, 0x4F], (.orEbIb82 · (.undefinedOpcode { mod := 1, rm := 7 }))),
      ([0x82, 0x57], (.adcEbIb82 · (.undefinedOpcode { mod := 1, rm := 7 }))),
      ([0x82, 0x5F], (.sbbEbIb82 · (.undefinedOpcode { mod := 1, rm := 7 }))),
      ([0x82, 0x67], (.andEbIb82 · (.undefinedOpcode { mod := 1, rm := 7 }))),
      ([0x82, 0x6F], (.subEbIb82 · (.undefinedOpcode { mod := 1, rm := 7 }))),
      ([0x82, 0x77], (.xorEbIb82 · (.undefinedOpcode { mod := 1, rm := 7 }))),
      ([0x82, 0x7F], (.cmpEbIb82 · (.undefinedOpcode { mod := 1, rm := 7 }))),
      ([0xF6, 0x4F], (.testEbIbSlash1 · (.undefinedOpcode { mod := 1, rm := 7 }))),
      ([0xF7, 0x4F], (.testEvIzSlash1 · (.undefinedOpcode { mod := 1, rm := 7 }))),
      ([0xC0, 0x77], (.shlEbIbSlash6 · (.undefinedOpcode { mod := 1, rm := 7 }))),
      ([0xC1, 0x77], (.shlEvIbSlash6 · (.undefinedOpcode { mod := 1, rm := 7 }))),
      ([0xD0, 0x77], (.shlEb1Slash6 · (.undefinedOpcode { mod := 1, rm := 7 }))),
      ([0xD1, 0x77], (.shlEv1Slash6 · (.undefinedOpcode { mod := 1, rm := 7 }))),
      ([0xD2, 0x77], (.shlEbCLSlash6 · (.undefinedOpcode { mod := 1, rm := 7 }))),
      ([0xD3, 0x77], (.shlEvCLSlash6 · (.undefinedOpcode { mod := 1, rm := 7 }))) ] = true := by
  decide +kernel

theorem test_decodeTest : decodes .undefinedOpcode
    [ ([0x84, 0x57, 0x05], (.testEbGb · .dx bx5)),
      ([0x85, 0x57, 0x05], (.testEvGv · .dx bx5)),
      ([0xA8, 0x80], (.testALIb · 0x80)),
      ([0xA9, 0x34, 0x82], (.testEAXIz · 0x8234)),
      ([0xF6, 0x47, 0x05, 0x80], (.testEbIb · bx5 0x80)),
      ([0xF7, 0x47, 0x05, 0x34, 0x82], (.testEvIz · bx5 0x8234)) ] = true := by
  decide +kernel

theorem test_decodeMulDiv : decodes .undefinedOpcode
    [ ([0xF6, 0x67, 0x05], (.mulEb · bx5)),
      ([0xF6, 0x6F, 0x05], (.imulEb · bx5)),
      ([0xF6, 0x77, 0x05], (.divEb · bx5)),
      ([0xF6, 0x7F, 0x05], (.idivEb · bx5)),
      ([0xF7, 0x67, 0x05], (.mulEv · bx5)),
      ([0xF7, 0x6F, 0x05], (.imulEv · bx5)),
      ([0xF7, 0x77, 0x05], (.divEv · bx5)),
      ([0xF7, 0x7F, 0x05], (.idivEv · bx5)),
      ([0x69, 0x57, 0x05, 0x34, 0x82], (.imulGvEvIz · .dx bx5 0x8234)),
      ([0x6B, 0x57, 0x05, 0x80], (.imulGvEvIb · .dx bx5 0x80)),
      ([0x0F, 0xAF, 0x57, 0x05], (.imulGvEv · .dx bx5)) ] = true := by
  decide +kernel

theorem test_decodeUndefined : decodes .undefinedOpcode
    [ ([0xFE, 0x57], (.undefinedFE2 · { mod := 1, rm := 7 })),
      ([0xFE, 0x5F], (.undefinedFE3 · { mod := 1, rm := 7 })),
      ([0xFE, 0x67], (.undefinedFE4 · { mod := 1, rm := 7 })),
      ([0xFE, 0x6F], (.undefinedFE5 · { mod := 1, rm := 7 })),
      ([0xFE, 0x77], (.undefinedFE6 · { mod := 1, rm := 7 })),
      ([0xFE, 0x7F], (.undefinedFE7 · { mod := 1, rm := 7 })),
      ([0xFF, 0x7F], (.undefinedFF7 · { mod := 1, rm := 7 })) ] = true := by
  decide +kernel

theorem test_decodeRotateRol : decodes .undefinedOpcode
    [ ([0xC0, 0x47, 0x05, 0x80], (.rolEbIb · bx5 0x80)),
      ([0xC1, 0x47, 0x05, 0x80], (.rolEvIb · bx5 0x80)),
      ([0xD0, 0x47, 0x05], (.rolEb1 · bx5)),
      ([0xD1, 0x47, 0x05], (.rolEv1 · bx5)),
      ([0xD2, 0x47, 0x05], (.rolEbCL · bx5)),
      ([0xD3, 0x47, 0x05], (.rolEvCL · bx5)) ] = true := by
  decide +kernel

theorem test_decodeRotateRor : decodes .undefinedOpcode
    [ ([0xC0, 0x4F, 0x05, 0x80], (.rorEbIb · bx5 0x80)),
      ([0xC1, 0x4F, 0x05, 0x80], (.rorEvIb · bx5 0x80)),
      ([0xD0, 0x4F, 0x05], (.rorEb1 · bx5)),
      ([0xD1, 0x4F, 0x05], (.rorEv1 · bx5)),
      ([0xD2, 0x4F, 0x05], (.rorEbCL · bx5)),
      ([0xD3, 0x4F, 0x05], (.rorEvCL · bx5)) ] = true := by
  decide +kernel

theorem test_decodeRotateRcl : decodes .undefinedOpcode
    [ ([0xC0, 0x57, 0x05, 0x80], (.rclEbIb · bx5 0x80)),
      ([0xC1, 0x57, 0x05, 0x80], (.rclEvIb · bx5 0x80)),
      ([0xD0, 0x57, 0x05], (.rclEb1 · bx5)),
      ([0xD1, 0x57, 0x05], (.rclEv1 · bx5)),
      ([0xD2, 0x57, 0x05], (.rclEbCL · bx5)),
      ([0xD3, 0x57, 0x05], (.rclEvCL · bx5)) ] = true := by
  decide +kernel

theorem test_decodeRotateRcr : decodes .undefinedOpcode
    [ ([0xC0, 0x5F, 0x05, 0x80], (.rcrEbIb · bx5 0x80)),
      ([0xC1, 0x5F, 0x05, 0x80], (.rcrEvIb · bx5 0x80)),
      ([0xD0, 0x5F, 0x05], (.rcrEb1 · bx5)),
      ([0xD1, 0x5F, 0x05], (.rcrEv1 · bx5)),
      ([0xD2, 0x5F, 0x05], (.rcrEbCL · bx5)),
      ([0xD3, 0x5F, 0x05], (.rcrEvCL · bx5)) ] = true := by
  decide +kernel

theorem test_decodeShiftShl : decodes .undefinedOpcode
    [ ([0xC0, 0x67, 0x05, 0x80], (.shlEbIb · bx5 0x80)),
      ([0xC1, 0x67, 0x05, 0x80], (.shlEvIb · bx5 0x80)),
      ([0xD0, 0x67, 0x05], (.shlEb1 · bx5)),
      ([0xD1, 0x67, 0x05], (.shlEv1 · bx5)),
      ([0xD2, 0x67, 0x05], (.shlEbCL · bx5)),
      ([0xD3, 0x67, 0x05], (.shlEvCL · bx5)) ] = true := by
  decide +kernel

theorem test_decodeShiftShr : decodes .undefinedOpcode
    [ ([0xC0, 0x6F, 0x05, 0x80], (.shrEbIb · bx5 0x80)),
      ([0xC1, 0x6F, 0x05, 0x80], (.shrEvIb · bx5 0x80)),
      ([0xD0, 0x6F, 0x05], (.shrEb1 · bx5)),
      ([0xD1, 0x6F, 0x05], (.shrEv1 · bx5)),
      ([0xD2, 0x6F, 0x05], (.shrEbCL · bx5)),
      ([0xD3, 0x6F, 0x05], (.shrEvCL · bx5)) ] = true := by
  decide +kernel

theorem test_decodeShiftSar : decodes .undefinedOpcode
    [ ([0xC0, 0x7F, 0x05, 0x80], (.sarEbIb · bx5 0x80)),
      ([0xC1, 0x7F, 0x05, 0x80], (.sarEvIb · bx5 0x80)),
      ([0xD0, 0x7F, 0x05], (.sarEb1 · bx5)),
      ([0xD1, 0x7F, 0x05], (.sarEv1 · bx5)),
      ([0xD2, 0x7F, 0x05], (.sarEbCL · bx5)),
      ([0xD3, 0x7F, 0x05], (.sarEvCL · bx5)) ] = true := by
  decide +kernel

theorem test_decodeJumpShort : decodes .undefinedOpcode
    [ ([0x70, 0x80], (.joJb · 0x80)),
      ([0x71, 0x80], (.jnoJb · 0x80)),
      ([0x72, 0x80], (.jbJb · 0x80)),
      ([0x73, 0x80], (.jaeJb · 0x80)),
      ([0x74, 0x80], (.jeJb · 0x80)),
      ([0x75, 0x80], (.jneJb · 0x80)),
      ([0x76, 0x80], (.jbeJb · 0x80)),
      ([0x77, 0x80], (.jaJb · 0x80)),
      ([0x78, 0x80], (.jsJb · 0x80)),
      ([0x79, 0x80], (.jnsJb · 0x80)),
      ([0x7A, 0x80], (.jpJb · 0x80)),
      ([0x7B, 0x80], (.jnpJb · 0x80)),
      ([0x7C, 0x80], (.jlJb · 0x80)),
      ([0x7D, 0x80], (.jgeJb · 0x80)),
      ([0x7E, 0x80], (.jleJb · 0x80)),
      ([0x7F, 0x80], (.jgJb · 0x80)) ] = true := by
  decide +kernel

theorem test_decodeJumpNear : decodes .undefinedOpcode
    [ ([0x0F, 0x80, 0x34, 0x82], (.joJz · 0x8234)),
      ([0x0F, 0x81, 0x34, 0x82], (.jnoJz · 0x8234)),
      ([0x0F, 0x82, 0x34, 0x82], (.jbJz · 0x8234)),
      ([0x0F, 0x83, 0x34, 0x82], (.jaeJz · 0x8234)),
      ([0x0F, 0x84, 0x34, 0x82], (.jeJz · 0x8234)),
      ([0x0F, 0x85, 0x34, 0x82], (.jneJz · 0x8234)),
      ([0x0F, 0x86, 0x34, 0x82], (.jbeJz · 0x8234)),
      ([0x0F, 0x87, 0x34, 0x82], (.jaJz · 0x8234)),
      ([0x0F, 0x88, 0x34, 0x82], (.jsJz · 0x8234)),
      ([0x0F, 0x89, 0x34, 0x82], (.jnsJz · 0x8234)),
      ([0x0F, 0x8A, 0x34, 0x82], (.jpJz · 0x8234)),
      ([0x0F, 0x8B, 0x34, 0x82], (.jnpJz · 0x8234)),
      ([0x0F, 0x8C, 0x34, 0x82], (.jlJz · 0x8234)),
      ([0x0F, 0x8D, 0x34, 0x82], (.jgeJz · 0x8234)),
      ([0x0F, 0x8E, 0x34, 0x82], (.jleJz · 0x8234)),
      ([0x0F, 0x8F, 0x34, 0x82], (.jgJz · 0x8234)) ] = true := by
  decide +kernel

theorem test_decodeSetCc : decodes .undefinedOpcode
    [ ([0x0F, 0x90, 0x57, 0x05], (.setoEb · .dx bx5)),
      ([0x0F, 0x91, 0x57, 0x05], (.setnoEb · .dx bx5)),
      ([0x0F, 0x92, 0x57, 0x05], (.setbEb · .dx bx5)),
      ([0x0F, 0x93, 0x57, 0x05], (.setaeEb · .dx bx5)),
      ([0x0F, 0x94, 0x57, 0x05], (.seteEb · .dx bx5)),
      ([0x0F, 0x95, 0x57, 0x05], (.setneEb · .dx bx5)),
      ([0x0F, 0x96, 0x57, 0x05], (.setbeEb · .dx bx5)),
      ([0x0F, 0x97, 0x57, 0x05], (.setaEb · .dx bx5)),
      ([0x0F, 0x98, 0x57, 0x05], (.setsEb · .dx bx5)),
      ([0x0F, 0x99, 0x57, 0x05], (.setnsEb · .dx bx5)),
      ([0x0F, 0x9A, 0x57, 0x05], (.setpEb · .dx bx5)),
      ([0x0F, 0x9B, 0x57, 0x05], (.setnpEb · .dx bx5)),
      ([0x0F, 0x9C, 0x57, 0x05], (.setlEb · .dx bx5)),
      ([0x0F, 0x9D, 0x57, 0x05], (.setgeEb · .dx bx5)),
      ([0x0F, 0x9E, 0x57, 0x05], (.setleEb · .dx bx5)),
      ([0x0F, 0x9F, 0x57, 0x05], (.setgEb · .dx bx5)) ] = true := by
  decide +kernel

theorem test_decodeFlagInstructions : decodes .undefinedOpcode
    [ ([0xF8], .clc),
      ([0xF9], .stc),
      ([0xF5], .cmc),
      ([0x9F], .lahf),
      ([0x9E], .sahf) ] = true := by
  decide +kernel

theorem test_decodePorts : decodes .undefinedOpcode
    [ ([0xE4, 0x80], (.inALIb · 0x80)),
      ([0xE5, 0x80], (.inEAXIb · 0x80)),
      ([0xEC], .inALDX),
      ([0xED], .inEAXDX),
      ([0xE6, 0x80], (.outIbAL · 0x80)),
      ([0xE7, 0x80], (.outIbEAX · 0x80)),
      ([0xEE], .outDXAL),
      ([0xEF], .outDXEAX) ] = true := by
  decide +kernel

theorem test_decodeInterrupts : decodes .undefinedOpcode
    [ ([0xCC], .int3),
      ([0xCD, 0x80], (.intIb · 0x80)),
      ([0xCE], .into) ] = true := by
  decide +kernel

/-! ### Decoding: prefixes, addressing forms, sizes -/

/-- A head of 32-bit code without prefixes. -/
def head32 (n : Nat) : Head := { prefixes := [], opSize := .b32, addrSize := .b32, len := n }

/-- 30_encoding R305, R306: `66` makes the operand 32-bit in 16-bit code, and the immediate 4 bytes. -/
theorem test_decodeOperandSize : decode (code16 .twin) [0x66, 0x05, 0x78, 0x56, 0x34, 0x12] =
    { outcome := .instr (.addEAXIz
        { prefixes := [.operandSize], opSize := .b32, addrSize := .b16, len := 6 } 0x12345678), len := 6 } := by
  decide +kernel

/-- 30_encoding R305, R306, R320, R321: `67` makes the addressing 32-bit in 16-bit code; SIB `44`, disp8. -/
theorem test_decodeAddressSize : decode (code16 .twin) [0x26, 0x67, 0x02, 0x44, 0x88, 0xFF] =
    { outcome := .instr (.addGbEb
        { prefixes := [.seg .es, .addressSize], opSize := .b16, addrSize := .b32, len := 6 } .ax
        (.sib 2 .cx .ax (.d8 0xFF))), len := 6 } := by
  decide +kernel

/-- 30_encoding R315: `mod = 0`, `rm = 6` is a 16-bit displacement alone. -/
theorem test_decodeDirect16 : decode (code16 .twin) [0x00, 0x06, 0x34, 0x12] =
    { outcome := .instr (.addEbGb (head16 4) .ax (.direct16 0x1234)), len := 4 } := by
  decide +kernel

/-- 30_encoding R320, R323: `mod = 0` with SIB base 5 is an index and a 32-bit displacement. -/
theorem test_decodeSibNoBase :
    decode { codeSize := .b32, aliasPolicy := .twin } [0x00, 0x04, 0x45, 0x00, 0x10, 0x00, 0x00] =
    { outcome := .instr (.addEbGb (head32 7) .ax (.sibNoBase 1 .ax 0x1000)), len := 7 } := by
  decide +kernel

/-- 30_encoding R310: `mod = 3` names the register of `rm`. -/
theorem test_decodeRegister : decode { codeSize := .b32, aliasPolicy := .twin } [0x31, 0xF9] =
    { outcome := .instr (.xorEvGv (head32 2) .di (.reg .cx)), len := 2 } := by
  decide +kernel

/-- The location of the memory operand of `03 /r` under a launch state, as its linear address. -/
def linearOf (bytes : List Byte) (x : Start) : Option Dword :=
  let s := launch bytes x
  match (decode s.params.mode s.window).outcome with
  | .instr (.addGvEv h _ e) =>
    match s.eLoc h e with
    | .mem a => some a
    | .reg _ => none
  | _ => none

/-- The launch state of 95_test_vectors 2.1. -/
def start21 : Start :=
  { regs := [(.bx, 0x1000), (.bp, 0x2000), (.si, 0x30), (.di, 0x4)], bases := [(.ds, 0x10000), (.ss, 0x20000)] }

/-- 95_test_vectors 2.1: rows of the 16-bit table. -/
theorem test_addressing16 :
    ([([0x03, 0x00], 0x11030), ([0x03, 0x02], 0x22030), ([0x03, 0x06, 0x34, 0x12], 0x11234),
      ([0x03, 0x44, 0x80], 0x1FFB0), ([0x03, 0x46, 0x80], 0x21F80), ([0x03, 0x81, 0x34, 0x12], 0x12238),
      ([0x03, 0x83, 0x34, 0x12], 0x23238)] : List (List Byte × Dword)).all
      (fun r => linearOf r.1 start21 == some r.2) = true := by
  decide +kernel

/-- The launch state of 95_test_vectors 2.2. -/
def start22 : Start :=
  { regs := [(.ax, 0x1), (.cx, 0x10), (.dx, 0x200), (.bx, 0x3000), (.sp, 0x40000), (.bp, 0x500000),
      (.si, 0x6000000), (.di, 0x70000000)]
    bases := [(.ds, 0x100), (.ss, 0x200)]
    codeSize := .b32 }

/-- 95_test_vectors 2.2 and 2.3: rows of the 32-bit tables. -/
theorem test_addressing32 :
    ([([0x03, 0x05, 0x44, 0x33, 0x22, 0x11], 0x11223444), ([0x03, 0x40, 0xFC], 0xFD),
      ([0x03, 0x45, 0xFC], 0x5001FC), ([0x03, 0x87, 0x44, 0x33, 0x22, 0x11], 0x81223444),
      ([0x03, 0x04, 0x8B], 0x3140), ([0x03, 0x04, 0x0C], 0x40110)] : List (List Byte × Dword)).all
      (fun r => linearOf r.1 start22 == some r.2) = true := by
  decide +kernel

/-! ### The host's words -/

/-- 30_encoding R355: the word of `ADD AL, 0x10`, its first byte the least significant. -/
theorem test_tableWord : decodeTableWord 16 0x1004 = some (.addALIb (head16 2) 0x10) := by
  decide +kernel

/-- 30_encoding R370: the table gives `JE rel16` two bytes; its displacement is zeros. -/
theorem test_tableWordShort : decodeTableWord 16 0x840F = some (.jeJz (head16 4) 0) := by
  decide +kernel

/-- A word of an opcode outside the block is no instruction (30_encoding R361). -/
theorem test_tableWordOutside : decodeTableWord 8 0xF4 = none := by
  decide +kernel

/-- The very next step after placing `STC` at reset runs it (45_flag_consumers R902). -/
theorem test_fetchWord :
    (match step (State.reset.withFetchWord 8 0xF9) with
      | .next t => t.flag .cf && t.eip == 0x101
      | .fault _ => false
      | .refused _ => false) = true := by
  decide +kernel

/-- Placing a word works where `EIP` stands at `stopIP`, under a mask and over a memory-mapped range. -/
theorem test_fetchWordOpens :
    let s : State :=
      { State.reset with
        eip := 0xFFFF
        pending := [some 8]
        params := { Config.launch with linearMask := 0, mmio := [{ first := 0, last := 0xFFFFFFFF }] } }
    (match step (s.withFetchWord 16 0x1004) with
      | .next t => t.gpr.eax == 0x10 && t.eip == 1
      | .fault _ => false
      | .refused _ => false) = true := by
  decide +kernel

/-! ### Interface calls, free values, boundaries -/

/-- The interface calls of one step, the fetches left out. -/
def callsOf (bytes : List Byte) (x : Start) (fetches : Nat) : Option (List BusCall) :=
  match step (launch bytes x) with
  | .next t => some (t.busLog.take (t.busLog.length - fetches))
  | .fault _ => none
  | .refused _ => none

/-- 46_io_interrupt R1003, 95_test_vectors 3.6: `OUT DX, AL` is one port write. -/
theorem test_outCall : callsOf [0xEE] { regs := [(.dx, 0x3F8), (.ax, 0x41)] } 1 =
    some [.portWrite 0x3F8 .byte 0x41] := by
  decide +kernel

/-- 46_io_interrupt R1002: `IN AL, 0x60` is one port read, at port 0x60. -/
theorem test_inCall :
    (match callsOf [0xE4, 0x60] {} 2 with
      | some [.portRead p .byte _] => p == 0x60
      | _ => false) = true := by
  decide +kernel

/-- 20_memory R201, R204: a memory destination is one read, then one write. -/
theorem test_memoryCalls : callsOf [0x01, 0x07] { regs := [(.bx, 0x2000), (.ax, 0x0102)], mem := [(0x2000, 7)] } 2 =
    some [.memWrite 0x2000 .word 0x0109, .memRead 0x2000 .word 7] := by
  decide +kernel

/-- 45_flag_consumers R922: SETcc does not read its operand. -/
theorem test_setccCalls : callsOf [0x0F, 0x94, 0x07] { regs := [(.bx, 0x2000)], flags := [.zf] } 3 =
    some [.memWrite 0x2000 .byte 1] := by
  decide +kernel

/-- 20_memory R206: a read of a memory-mapped byte takes one free value; a write there leaves memory alone. -/
theorem test_mappedByte :
    let mapped : List MmioRange := [{ first := 0x2000, last := 0x2000 }]
    (match step (launch [0x00, 0x07] { regs := [(.bx, 0x2000), (.ax, 1)], mmio := mapped }) with
      | .next t => t.draws == 1 && t.byteAt 0x2000 == 0
      | .fault _ => false
      | .refused _ => false) = true := by
  decide +kernel

/-- 70_reset R1206: the run finishes at `stopIP`. -/
theorem test_finishes :
    step { State.reset with eip := 0xFFFF } = .next { State.reset with eip := 0xFFFF, status := .finished } := by
  rfl

/-- 60_exceptions R1130, R1120: an offered vector is handed over before an instruction is fetched. -/
theorem test_external :
    step { State.reset with pending := [some 8] } =
      .next { State.reset with pending := [], status := .trapped (.external 8) } := by
  rfl

/-- 60_exceptions R1130: a boundary without an offer runs an instruction and leaves the offer of the next boundary. -/
theorem test_laterOffer :
    (match step { launch [0xF9] {} with pending := [none, some 8] } with
      | .next t => t.flag .cf && t.status == .running && t.offered == some 8
      | .fault _ => false
      | .refused _ => false) = true := by
  decide +kernel

/-- A new state as `deliver` may hand it back: a handler's EIP and CS base, a byte pushed. -/
def handler : Resumption :=
  { gpr := { Gpr.reset with esp := 0x1FFF }
    seg := { SegFile.reset with cs := { selector := 0xF000, base := 0xF0000 } }
    eip := 0x12345
    flags := .reset
    flagsOther := 0x200
    shapes := [operandShape (head16 1) .word .readValue (.register .ax)]
    mem := [(0x1FFF, 7)] }

/-- 60_exceptions R1120, 70_reset R1207, 10_state R120: the run goes on with the state handed back, in 16-bit code with
`EIP` modulo 2^16. -/
theorem test_resume :
    let t := State.reset.resume handler
    t.status = .running ∧ t.eip = 0x2345 ∧ t.gpr.esp = 0x1FFF ∧ t.segBase .cs = 0xF0000 ∧ t.byteAt 0x1FFF = 7 ∧
      t.flagsOther = 0x200 ∧ t.accessorCache = handler.shapes := by
  decide +kernel

/-- The kind, size and access mode of the shapes one step requests. -/
def shapesOf (bytes : List Byte) (x : Start) : Option (List (ShapeKind × ValueSize × AccessMode)) :=
  match step (launch bytes x) with
  | .next t => some (t.accessorCache.map fun y => (y.kind, y.valueSize, y.accessMode))
  | .fault _ => none
  | .refused _ => none

/-- 43_muldiv R700, 30_encoding R331: `MUL BX` has `DX:AX` as its implicit destination and `AX` as its source. -/
theorem test_mulShapes : shapesOf [0xF7, 0xE3] {} =
    some [(.fixed .ax, .s2, .readAddress), (.fixed .dx, .s2, .readAddress), (.memory, .s2, .readValue),
      (.fixed .ax, .s2, .readValue)] := by
  decide +kernel

/-- 43_muldiv R700: `DIV BL` has `AL` and `AH` as its implicit destinations and `AX` as its dividend. -/
theorem test_divShapes : shapesOf [0xF6, 0xF3] { regs := [(.bx, 1)] } =
    some [(.fixed .ax, .s1, .readAddress), (.fixed .sp, .s1, .readAddress), (.memory, .s1, .readValue),
      (.fixed .ax, .s2, .readValue)] := by
  decide +kernel

/-- 70_reset R1204: an ended run takes no step. -/
theorem test_runOver : step { State.reset with status := .finished } = .fault .runOver := by
  rfl

/-- 40_flag_engine R411, 95_test_vectors 1.1: `Sbb_Word` of 0000, FFFF and a borrow: CF, AF, OF. -/
theorem test_sbbTag :
    evalFlag .cf (.sbb .word 0 0xFFFF true) = some true ∧ evalFlag .af (.sbb .word 0 0xFFFF true) = some true ∧
      evalFlag .of (.sbb .word 0 0xFFFF true) = some false := by
  decide +kernel

/-- 95_test_vectors 1.2: `ADD AL, 0x10` evaluates nothing; CF is then evaluated once, its second read not at all. -/
theorem test_evalCount :
    (match step (launch [0x04, 0x10] { regs := [(.ax, 0xF5)] }) with
      | .next t =>
        let r := t.readFlag .cf
        let r' := r.2.readFlag .cf
        let z := r'.2.readFlag .zf
        t.flags.evalCount == 0 && r.1 && r.2.flags.evalCount == 1 && r'.1 && r'.2.flags.evalCount == 1 && !z.1
          && z.2.flags.evalCount == 2
      | .fault _ => false
      | .refused _ => false) = true := by
  decide +kernel

/-! ### `wellFormed` refuses an ill-formed term for each of its checks -/

/-- Well-formed in 16-bit code with the alias rows undefined. -/
def ok (i : Instr) : Bool := i.wellFormed (code16 .undefinedOpcode)

/-- The term every ill-formed one below differs from in one place. -/
theorem test_wf : ok (.addEbGb (head16 2) .ax (.mem16 .bx .none)) = true := by decide +kernel

theorem test_wf_opSize : ok (.addEbGb { head16 2 with opSize := .b32 } .ax (.mem16 .bx .none)) = false := by
  decide +kernel

theorem test_wf_addrSize : ok (.addEbGb { head16 2 with addrSize := .b32 } .ax (.mem32 .bx .none)) = false := by
  decide +kernel

theorem test_wf_prefixedSize : ok (.clc { head16 2 with prefixes := [.operandSize] }) = false := by
  decide +kernel

theorem test_wf_segments : ok (.clc { head16 3 with prefixes := [.seg .es, .seg .ds] }) = false ∧
    ok (.clc { head16 3 with prefixes := [.seg .es, .seg .es] }) = true := by
  decide +kernel

theorem test_wf_length : ok (.addEbGb (head16 3) .ax (.mem16 .bx .none)) = false := by decide +kernel

theorem test_wf_tooLong : ok (.clc { head16 16 with prefixes := List.replicate 15 (.seg .es) }) = false ∧
    ok (.clc { head16 15 with prefixes := List.replicate 14 (.seg .es) }) = true := by
  decide +kernel

theorem test_wf_mem16 : ok (.addEbGb (head16 2) .ax (.mem16 .bp .none)) = false := by decide +kernel

theorem test_wf_mem32 : ok (.addEbGb (head16 2) .ax (.mem32 .bx .none)) = false := by decide +kernel

theorem test_wf_direct32 : ok (.addEbGb (head16 6) .ax (.direct32 0)) = false := by decide +kernel

theorem test_wf_sib16 : ok (.addEbGb (head16 3) .ax (.sib 0 .ax .ax .none)) = false ∧
    ok (.addEbGb (head16 7) .ax (.sibNoBase 0 .ax 0)) = false := by
  decide +kernel

/-- In 32-bit code. -/
def ok32 (i : Instr) : Bool := i.wellFormed { codeSize := .b32, aliasPolicy := .twin }

theorem test_wf_forms16 : ok32 (.addEbGb (head32 2) .ax (.mem16 .bx .none)) = false ∧
    ok32 (.addEbGb (head32 4) .ax (.direct16 0)) = false := by
  decide +kernel

theorem test_wf_base32 : ok32 (.addEbGb (head32 2) .ax (.mem32 .sp .none)) = false ∧
    ok32 (.addEbGb (head32 2) .ax (.mem32 .bp .none)) = false ∧
    ok32 (.addEbGb (head32 3) .ax (.sib 0 .ax .bp .none)) = false := by
  decide +kernel

theorem test_wf_immediate : ok (.addEAXIz (head16 3) 0x10000) = false ∧ ok (.addEAXIz (head16 3) 0xFFFF) = true := by
  decide +kernel

theorem test_wf_policy : ok (.addEbIb82 (head16 3) (.twin (.reg .ax, 1))) = false ∧
    ok32 (.addEbIb82 (head32 2) (.undefinedOpcode { mod := 3, rm := 0 })) = false := by
  decide +kernel

/-! ### Witnesses: the hypotheses of the statements are met -/

/-- DecodeOfEncode: a well-formed instruction with prefixes, SIB, displacement and immediate, of 14 bytes. -/
theorem test_witness_DecodeOfEncode :
    Instr.wellFormed (code16 .undefinedOpcode)
      (.imulGvEvIz { prefixes := [.seg .fs, .operandSize, .addressSize], opSize := .b32, addrSize := .b32, len := 13 }
        .di
        (.sib 3 .si .sp (.d32 0x80000000)) 0xFFFFFFFF) = false ∧
    Instr.wellFormed (code16 .undefinedOpcode)
      (.imulGvEvIz { prefixes := [.seg .fs, .operandSize, .addressSize], opSize := .b32, addrSize := .b32, len := 14 }
        .di
        (.sib 3 .si .sp (.d32 0x80000000)) 0xFFFFFFFF) = true := by
  decide +kernel

/-- EncodeOfDecode, SizesOfPrefixes: bytes that decode to an instruction, under both size prefixes. -/
theorem test_witness_EncodeOfDecode :
    (decode (code16 .twin) [0x66, 0x67, 0x01, 0x00]).outcome =
      .instr (.addEvGv { prefixes := [.operandSize, .addressSize], opSize := .b32, addrSize := .b32, len := 4 } .ax
        (.mem32 .ax .none)) := by
  decide +kernel

/-- Fifteen prefixes. -/
def fifteen : List Prefix := List.replicate 14 .operandSize ++ [.seg .gs]

/-- A head with these prefixes in 16-bit code, both sizes 32 bits. -/
def longHead (ps : List Prefix) (len : Nat) : Head := { prefixes := ps, opSize := .b32, addrSize := .b32, len := len }

/-- Two instructions of 16 bytes: the last immediate byte, and the ModRM byte, would be the 16th. -/
def longImm : Instr :=
  .imulGvEvIz (longHead [.seg .fs, .operandSize, .addressSize, .addressSize, .seg .fs] 16) .di
    (.sib 3 .si .sp (.d32 0x80000000)) 0xFFFFFFFF
def longModRm : Instr := .addEbGb (longHead (.addressSize :: fifteen.drop 2) 16) .ax (.mem32 .ax .none)

/-- LengthLimit: instructions of 16 bytes, cut at the immediate and at the ModRM byte, the latter before another
16th byte; fifteen agreeing prefixes; and 15 bytes whose decode is refused as too long. -/
theorem test_witness_LengthLimit :
    (longImm.shapeOk (code16 .twin) = true ∧ (encode longImm).length = 16 ∧
      decode (code16 .twin) (encode longImm) = { outcome := .refuse .tooLong, len := 15 }) ∧
    (longModRm.shapeOk (code16 .twin) = true ∧ (encode longModRm).length = 16 ∧
      (((encode longModRm).take 15 ++ [0xC0]).take 15 = (encode longModRm).take 15) ∧
      decode (code16 .twin) ((encode longModRm).take 15 ++ [0xC0]) = { outcome := .refuse .tooLong, len := 15 }) ∧
    segmentsAgree none fifteen = true ∧ fifteen.length = 15 ∧
    (fifteen.map Prefix.toByte ++ [0x90]).take 15 = fifteen.map Prefix.toByte ∧
    15 ≤ (fifteen.map Prefix.toByte).length ∧
    (decode (code16 .twin) (fifteen.map Prefix.toByte)).outcome = .refuse .tooLong := by
  decide +kernel

/-- RefusedPrefixes: fourteen prefixes, one of them a segment override, and another segment. -/
theorem test_witness_RefusedPrefixes : segmentsAgree none (fifteen.drop 1) = true ∧ (fifteen.drop 1).length < 15 ∧
    .seg .gs ∈ fifteen.drop 1 ∧ Seg.gs ≠ .es := by
  decide +kernel

/-- OutsideOpcodesRefused: each clause with as many prefixes as it allows. -/
theorem test_witness_OutsideOpcodesRefused : segmentsAgree none (fifteen.drop 1) = true ∧
    (fifteen.drop 1).length < 15 ∧ outsideOneByte (0x06#8).toNat = true ∧ outsideOneByte (0xFD#8).toNat = true ∧
    segmentsAgree none (fifteen.drop 2) = true ∧ (fifteen.drop 2).length < 14 ∧
    outsideTwoByte (0x7F#8).toNat = true ∧ outsideTwoByte (0xAE#8).toNat = true ∧
    2 ≤ (regField 0x10).toNat ∧ (regField 0x10).toNat ≤ 6 ∧ (regField 0xF7).toNat = 6 := by
  decide +kernel

/-- UndefinedRowsReadNoOperand: a row undefined under every policy, and an alias row under its policy, which its
fields carry. -/
theorem test_witness_UndefinedRowsReadNoOperand :
    (decode (code16 .twin) [0xFE, 0x97, 0x34, 0x12]).outcome =
      .instr (UndefinedRow.undefinedFE2.instr (head16 2) { mod := 2, rm := 7 }) ∧
    (decode (code16 .undefinedOpcode) [0xD0, 0xF0]).outcome =
      .instr (UndefinedRow.shlEb1Slash6.instr (head16 2) { mod := 3, rm := 0 }) ∧
    (UndefinedRow.shlEb1Slash6.instr (head16 2) { mod := 3, rm := 0 }).fields.policy ≠ none := by
  decide +kernel

/-- DecodeReadsItsBytesAlone: two windows that agree on the two bytes the decode reads and differ after them. -/
theorem test_witness_DecodeReadsItsBytesAlone :
    let x : List Byte := [0x04, 0x10] ++ List.replicate 13 0
    let y : List Byte := [0x04, 0x10] ++ List.replicate 14 0xFF
    15 ≤ x.length ∧ 15 ≤ y.length ∧
      x.take (decode (code16 .twin) x).len = y.take (decode (code16 .twin) x).len ∧ x ≠ y := by
  decide +kernel

/-- RegisterViews: each clause's range at its ends: a view whose home is another register, and registers beside it. -/
theorem test_witness_RegisterViews : Reg.sp ≠ viewHome .byte .sp ∧ Reg.di ≠ viewHome .dword .si ∧
    ((Gpr.reset.write .byte .sp 0x80).get .ax).getLsbD 15 = true := by
  decide +kernel

/-- ByteOrder, MemoryReadAfterWrite: a dword that wraps at the top of the address space, its four bytes distinct. -/
theorem test_witness_ByteOrder : State.reset.touchesMmio .dword 0xFFFFFFFE = false ∧
    (∀ i, i < 4 → ∀ j, j < 4 →
      State.reset.byteAddr 0xFFFFFFFE i = State.reset.byteAddr 0xFFFFFFFE j → i = j) ∧
    ∀ j, j < 4 → State.reset.byteAddr 0xFFFFFFFE j ≠ 0x2 := by
  decide +kernel

/-- EffectiveAddress32: a base that is not ESP, and each base the segment rule names. -/
theorem test_witness_EffectiveAddress32 : Reg.bp ≠ .sp ∧ Reg.ax ≠ .sp ∧ Reg.ax ≠ .bp := by decide

/-- An engine with every flag pending on one addition (40_flag_engine R410). -/
def pendingEngine : FlagEngine :=
  { FlagEngine.reset with
    tagCA := some (.add .byte 0xFF 1), tagO := some (.add .byte 0xFF 1), tagSZP := some (.value .byte 0)
    ovrCF := none, ovrPF := none, ovrAF := none, ovrZF := none, ovrSF := none, ovrOF := none }

/-- FlagRead: a valid state with a full override and one with an empty one. -/
theorem test_witness_FlagRead : State.reset.flags.valid = true ∧ State.reset.flags.ovr .cf = some false ∧
    ({ State.reset with flags := pendingEngine } : State).flags.valid = true ∧ pendingEngine.ovr .cf = none := by
  decide +kernel

/-- FlagWrite: the actions of an addition (41_alu_binary R510). -/
theorem test_witness_FlagWrite :
    let a : FlagActions :=
      resultActions .byte 0 (.lazy (.add .byte 0xFF 1)) (.lazy (.add .byte 0xFF 1)) (.lazy (.add .byte 0xFF 1))
    (allFlags.all fun f =>
      match a.get f with
      | .lazy x => groupTag a (groupOf f) == some x
      | .explicit _ => false
      | .undef => false
      | .keep => false) = true := by
  decide +kernel

/-- FlagsImage: the ends of the ranges of bits of `flagsOther`. -/
theorem test_witness_FlagsImage :
    [8, 10, 12, 31].all (fun i => (8 ≤ i && i ≤ 10) || (12 ≤ i && i ≤ 31)) = true := by
  decide

/-- StepRunsDecoded: running, away from `stopIP`, nothing offered, bytes that decode to an instruction. -/
theorem test_witness_StepRunsDecoded :
    let s := launch [0x04, 0x10] {}
    s.status = .running ∧ s.eip ≠ s.params.stopIP ∧ s.offered = none ∧
      (decode s.params.mode s.window).outcome = .instr (.addALIb (head16 2) 0x10) := by
  decide +kernel

/-- StepRunsDecoded: bytes that are refused. -/
theorem test_witness_StepRefuses :
    let s := launch [0xF4] {}
    s.status = .running ∧ s.eip ≠ s.params.stopIP ∧ s.offered = none ∧
      (decode s.params.mode s.window).outcome = .refuse .notInBlock := by
  decide +kernel

/-- BoundaryEvents: an ended run, a run at `stopIP`, an offered vector. -/
theorem test_witness_BoundaryEvents :
    ({ State.reset with status := .finished } : State).status ≠ .running ∧
      ({ State.reset with eip := 0xFFFF } : State).eip = State.reset.params.stopIP ∧
      State.reset.status = .running ∧ State.reset.eip ≠ State.reset.params.stopIP ∧
      ({ State.reset with pending := [some 255, none] } : State).pending = some 255 :: [none] := by
  decide +kernel

/-- EngineInvariantKept, MemoryCanonicalKept, EipRangeKept, LaunchConstantsKept, AccessorCacheGrows: a state that
meets every invariant and takes a step to a next state. -/
theorem test_witness_Invariants :
    let s := launch [0x01, 0x07] { regs := [(.bx, 0xFFFF)], mem := [(0xFFFF, 1)] }
    s.flags.valid = true ∧ s.mem.wf = true ∧ s.ipwrap s.eip = s.eip ∧ s.accessorCache.Nodup ∧
      (match step s with
        | .next _ => true
        | .fault _ => false
        | .refused _ => false) = true := by
  decide +kernel

/-- FaultsLeaveTheState: a step that ends in a fault, and one that ends in a refusal. -/
theorem test_witness_FaultsLeaveTheState :
    [[0xF7, 0xF3], [0xF3, 0x00]].all (fun b =>
      match step (launch b {}) with
      | .next t => t.status.leavesState
      | .fault _ => false
      | .refused _ => false) = true := by
  decide +kernel

/-- A group form on `BL` in 16-bit code. -/
def onBl : GroupForm := .eb (head16 2) (.reg .bx)

/-- DivCompletes: the greatest quotient a byte holds, 255, with a remainder. -/
theorem test_witness_DivCompletes :
    let s := launch [] { regs := [(.ax, 0x0200), (.bx, 0x2)] }
    let s' := launch [] { regs := [(.ax, 0x01FF), (.bx, 0x2)] }
    (onBl.value s).toNat ≠ 0 ∧ ¬ dividendOf onBl.width s.gpr / (onBl.value s).toNat < 2 ^ onBl.width.bits ∧
      (onBl.value s').toNat ≠ 0 ∧ dividendOf onBl.width s'.gpr / (onBl.value s').toNat < 2 ^ onBl.width.bits := by
  decide +kernel

/-- IdivCompletes: the least quotient a byte holds, -128 (95_test_vectors 3.3), and the greatest, 127. -/
theorem test_witness_IdivCompletes :
    let s := launch [] { regs := [(.ax, 0xFF80), (.bx, 0x1)] }
    let s' := launch [] { regs := [(.ax, 0x007F), (.bx, 0x1)] }
    (onBl.value s).toInt ≠ 0 ∧
      -(2 ^ (onBl.width.bits - 1)) ≤ (signedDividendOf onBl.width s.gpr).tdiv (onBl.value s).toInt ∧
      (signedDividendOf onBl.width s.gpr).tdiv (onBl.value s).toInt ≤ 2 ^ (onBl.width.bits - 1) - 1 ∧
      (onBl.value s').toInt ≠ 0 ∧
      -(2 ^ (onBl.width.bits - 1)) ≤ (signedDividendOf onBl.width s'.gpr).tdiv (onBl.value s').toInt ∧
      (signedDividendOf onBl.width s'.gpr).tdiv (onBl.value s').toInt ≤ 2 ^ (onBl.width.bits - 1) - 1 := by
  decide +kernel

/-- DivideFaults: a divisor 0; a quotient of 256; a quotient of +128 and one of -129. -/
theorem test_witness_DivideFaults :
    let z := launch [] { regs := [(.ax, 0x1)] }
    let u := launch [] { regs := [(.ax, 0x0200), (.bx, 0x2)] }
    let p := launch [] { regs := [(.ax, 0x0080), (.bx, 0x1)] }
    let n := launch [] { regs := [(.ax, 0xFF7F), (.bx, 0x1)] }
    (onBl.value z).toNat = 0 ∧ (onBl.value z).toInt = 0 ∧
      2 ^ onBl.width.bits ≤ dividendOf onBl.width u.gpr / (onBl.value u).toNat ∧
      2 ^ (onBl.width.bits - 1) - 1 < (signedDividendOf onBl.width p.gpr).tdiv (onBl.value p).toInt ∧
      (signedDividendOf onBl.width n.gpr).tdiv (onBl.value n).toInt < -(2 ^ (onBl.width.bits - 1)) := by
  decide +kernel

/-- A byte shift of `AL` by an immediate, and one by `CL`. -/
def alBy (n : BitVec 8) : ShiftForm := .ebIb (head16 3) (.reg .ax) n

def alByCl : ShiftForm := .ebCL (head16 2) (.reg .ax)

/-- ShiftByZero: counts 0 and 32. -/
theorem test_witness_ShiftByZero : (alBy 0).count State.reset = 0 ∧ (alBy 32).count State.reset = 0 ∧
    alByCl.count State.reset = 0 := by
  decide +kernel

/-- ShlResult, ShrResult, SarResult, RotateResult, RotateCarryResult: counts not 0, at the ends of each clause: 1; 2 and
one less than the width; the width and the greatest, 31. -/
theorem test_witness_ShiftResults :
    (alBy 1).count State.reset = 1 ∧ (alBy 33).count State.reset = 1 ∧ (alBy 2).count State.reset = 2 ∧
      (alBy 7).count State.reset = (alBy 7).width.bits - 1 ∧ (alBy 8).count State.reset = (alBy 8).width.bits ∧
      (alBy 31).count State.reset = 31 ∧ (alBy 31).width.bits ≤ 31 ∧
      (alBy 1).instr .shl = .shlEbIb (head16 3) (.reg .ax) 1 := by
  decide +kernel

/-- PortTransfers: the widths 8 and 16, and 32. -/
theorem test_witness_PortTransfers : (PortForm.dxByte (head16 1)).width ≠ .dword ∧
    (PortForm.ibWide (head16 2) 0xFF).width ≠ .dword ∧ (PortForm.dxWide (head32 1)).width = .dword := by
  decide +kernel

/-- EventDelivery: a new state with canonical memory and a valid engine, and one with neither. -/
theorem test_witness_EventDelivery :
    handler.mem.wf = true ∧ handler.flags.valid = true ∧
      ({ handler with mem := [(1, 0)] } : Resumption).mem.wf = false ∧
      ({ handler with flags := { FlagEngine.reset with ovrCF := none } } : Resumption).flags.valid = false := by
  decide +kernel

end Sys2Proof.Tests
end

section
/-!
SUPPORT. The statements about the state: the views of the registers, the FLAGS image, and what every step keeps of
`EIP`'s range, the launch parameters, the segment registers and `flagsOther`.
-/
namespace Sys2Proof.Machine

/-! ### `EIP` within the code offset range -/

/-- `trunc` to a size is a projection (00_scope R10). -/
@[simp] theorem truncTo_truncTo (z : Size) (x : Dword) : truncTo z (truncTo z x) = truncTo z x := by
  cases z with
  | b16 => simp [truncTo, BitVec.and_assoc]
  | b32 => rfl

/-- `ipwrap` depends on the launch parameters alone (10_state R120, R125). -/
theorem State.ipwrap_congr {s t : State} (hp : t.params = s.params) (x : Dword) : t.ipwrap x = s.ipwrap x := by
  simp only [State.ipwrap, hp]

/-- Whether `EIP` is in range depends on `EIP` and the launch parameters. -/
theorem State.eipInRange_congr {s t : State} (he : t.eip = s.eip) (hp : t.params = s.params) :
    t.eipInRange ↔ s.eipInRange := by
  simp only [State.eipInRange, State.ipwrap_congr hp, he]

/-- An `EIP` that was reduced by `ipwrap` is in range (10_state R120). -/
theorem State.eipInRange_of_ipwrap {s t : State} {x : Dword} (he : t.eip = s.ipwrap x) (hp : t.params = s.params) :
    t.eipInRange := by
  rw [State.eipInRange, State.ipwrap_congr hp, he]
  exact truncTo_truncTo _ x

/-- `deliver` keeps the range: the run ends with `EIP` as it is, or goes on at a reduced one (10_state R120). -/
theorem State.eipInRange_deliver {s : State} (h : s.eipInRange) (e : Event) : (s.deliver e).eipInRange := by
  obtain hd | ⟨x, -, -, hd⟩ := s.deliver_cases e
  · rw [hd]
    exact (State.eipInRange_congr (s.stopRun_eip e) (s.stopRun_params e)).mpr h
  · rw [hd]
    exact State.eipInRange_of_ipwrap (s.resume_eip x) (s.resume_params x)

/-! ### What everything but `deliver` keeps -/

theorem LaunchKept.refl (s : State) : LaunchKept s s := ⟨rfl, rfl, rfl, rfl⟩

theorem LaunchKept.trans {s t u : State} (h : LaunchKept s t) (k : LaunchKept t u) : LaunchKept s u :=
  ⟨k.seg.trans h.seg, k.flagsOther.trans h.flagsOther, k.params.trans h.params, k.pending.trans h.pending⟩

/-- From `s` to `t` no launch constant changes, and `EIP` is as before or one that `ipwrap` reduced (10_state R120,
R121; 45_flag_consumers R920). -/
structure Moves (s t : State) : Prop where
  kept : LaunchKept s t
  eip : t.eip = s.eip ∨ ∃ x, t.eip = s.ipwrap x

theorem Moves.trans {s t u : State} (h : Moves s t) (k : Moves t u) : Moves s u where
  kept := h.kept.trans k.kept
  eip := by
    obtain he | ⟨x, he⟩ := k.eip
    · rw [he]
      exact h.eip
    · exact .inr ⟨x, he.trans (State.ipwrap_congr h.kept.params x)⟩

theorem Moves.eipInRange {s t : State} (h : Moves s t) (hs : s.eipInRange) : t.eipInRange := by
  obtain he | ⟨x, he⟩ := h.eip
  · exact (State.eipInRange_congr he h.kept.params).mpr hs
  · exact State.eipInRange_of_ipwrap he h.kept.params

theorem Same.moves {s t : State} (h : Same s t) : Moves s t :=
  ⟨⟨h.seg, h.flagsOther, h.params, h.pending⟩, .inl h.eip⟩

theorem Completes.moves {hd : Head} {s t : State} (h : Completes hd s t) : Moves s t := ⟨h.kept, .inr ⟨_, h.eip⟩⟩

theorem Moves.refl (s : State) : Moves s s := (Same.refl s).moves

theorem Moves.advance (s : State) (n : Nat) : Moves s (s.advance n) := ⟨⟨rfl, rfl, rfl, rfl⟩, .inr ⟨_, rfl⟩⟩

theorem Moves.refuse (s : State) (r : RefuseReason) : Moves s (s.refuse r) := ⟨⟨rfl, rfl, rfl, rfl⟩, .inl rfl⟩

theorem Moves.decodeFault (s : State) (r : DecodeFaultReason) : Moves s (s.decodeFault r) :=
  ⟨⟨rfl, rfl, rfl, rfl⟩, .inl rfl⟩

theorem Moves.readFlag (s : State) (f : Flag) : Moves s (s.readFlag f).2 := ⟨⟨rfl, rfl, rfl, rfl⟩, .inl rfl⟩

theorem Moves.writeFlags (s : State) (a : FlagActions) : Moves s (s.writeFlags a) :=
  ⟨⟨rfl, rfl, rfl, rfl⟩, .inl rfl⟩

theorem Moves.storeLoc (s : State) (w : Width) (l : Loc) (v : BitVec w.bits) : Moves s (s.storeLoc w l v) :=
  ⟨⟨by simp, by simp, by simp, by simp⟩, .inl (by simp)⟩

theorem Moves.shift (op : ShiftOp) (w : Width) (h : Head) (e : EOperand) (n : Operand) (s : State)
    (hn : n.isRm = false) : Moves s (s.shift op w h e n) := by
  by_cases hc : maskedCount (s.operandValue .byte h n) = 0#5
  · exact (State.shift_zero op w h e n s hn hc).1.moves
  · exact (State.shift_spec op w h e n s hn hc).1.done.moves

/-- LAHF reads five flags, stores `AH` and advances (45_flag_consumers R904). -/
theorem Moves.lahf (s : State) (h : Head) : Moves s (s.lahf h) := by
  unfold State.lahf
  exact (Same.loadAddress s .byte h _).moves.trans <| (Moves.readFlag _ _).trans <| (Moves.readFlag _ _).trans <|
    (Moves.readFlag _ _).trans <| (Moves.readFlag _ _).trans <| (Moves.readFlag _ _).trans <|
    (Moves.storeLoc _ _ _ _).trans <| Moves.advance _ _

/-- A jump goes to its target or to the next instruction, both reduced (45_flag_consumers R920, R921). -/
theorem Moves.jumpIf (c : Cond) (h : Head) (rel : Dword) (s : State) : Moves s (s.jumpIf c h rel) := by
  obtain ⟨he, -, -, -, -, hk, -⟩ := State.jumpIf_spec c h rel s
  refine ⟨hk, .inr ?_⟩
  rw [he]
  split
  · exact ⟨_, rfl⟩
  · exact ⟨_, rfl⟩

/-- IN completes or is refused (46_io_interrupt R1001, R1002). -/
theorem Moves.portIn (w : Width) (h : Head) (p : Operand) (s : State) (hp : p.isRm = false) :
    Moves s (s.portIn w h p) := by
  by_cases hw : w = .dword
  · rw [State.portIn, if_pos hw]
    exact Moves.refuse s .port32
  · obtain ⟨v, hc, -⟩ := State.portIn_spec w h p s hw hp
    exact hc.moves

/-- OUT completes or is refused (46_io_interrupt R1001, R1003). -/
theorem Moves.portOut (w : Width) (h : Head) (p : Operand) (s : State) (hp : p.isRm = false) :
    Moves s (s.portOut w h p) := by
  by_cases hw : w = .dword
  · rw [State.portOut, if_pos hw]
    exact Moves.refuse s .port32
  · exact (State.portOut_spec w h p s hw hp).1.moves

/-- An instruction that raises no event keeps the launch constants and reduces the `EIP` it sets. -/
theorem Ran.moves {s t : State} (h : Ran s t) : Moves s t := by
  cases h with
  | binary op w h d x hdx => exact (State.binary_spec op w h d x s hdx).1.moves
  | test w h x y hy => exact (State.test_spec w h x y s hy).1.moves
  | unary op w h d => exact (State.unary_spec op w h d s).1.done.moves
  | mul w h e =>
    rw [State.mul_eq]
    exact (State.pair_spec w h e _ _ _ _ _ s).1.moves
  | imul w h e =>
    rw [State.imul_eq]
    exact (State.pair_spec w h e _ _ _ _ _ s).1.moves
  | imul2 w h r e => exact (State.imul2_spec w h r e s).1.moves
  | imul3 w h r e x hx => exact (State.imul3_spec w h r e x s hx).1.moves
  | divided w h e r q => exact (State.pair_spec w h e _ _ r q _ s).1.moves
  | shift op w h e n hn => exact Moves.shift op w h e n s hn
  | clc h => exact (Moves.writeFlags s _).trans (Moves.advance _ _)
  | stc h => exact (Moves.writeFlags s _).trans (Moves.advance _ _)
  | cmc h => exact (Moves.readFlag s _).trans ((Moves.writeFlags _ _).trans (Moves.advance _ _))
  | lahf h => exact Moves.lahf s h
  | sahf h => exact (Same.loadValue s .byte h _).moves.trans ((Moves.writeFlags _ _).trans (Moves.advance _ _))
  | jumpShort c h v => exact (Same.loadValue s .dword h _).moves.trans (Moves.jumpIf c h _ _)
  | jumpNear c h v => exact (Same.loadValue s h.opSize.width h _).moves.trans (Moves.jumpIf c h _ _)
  | setcc c h e => exact (State.setcc_spec c h e s).1.moves
  | portIn w h p hp => exact Moves.portIn w h p s hp
  | portOut w h p hp => exact Moves.portOut w h p s hp
  | intoNot h => exact (Moves.readFlag s _).trans (Moves.advance _ _)

/-- What an instruction does before it hands an event to `deliver` (60_exceptions R1105; 46_io_interrupt R1010). -/
theorem Raised.moves {s u : State} {e : Event} (h : Raised s u e) : Moves s u := by
  cases h with
  | divide w h e => exact (Same.loadImplicit s w h e _ _).moves
  | undefinedOpcode => exact Moves.refl s
  | int3 h => exact Moves.advance s h.len
  | intN h v => exact (Same.loadValue s .byte h _).moves.trans (Moves.advance _ _)
  | into h => exact (Moves.readFlag s _).trans (Moves.advance _ _)

/-- A step that answers a next state ends the run at `stopIP`, or takes the offer of the boundary and moves on, at
most with a `deliver` at the end (70_reset_and_hazards R1204). -/
theorem step_moves {s t : State} (h : step s = .next t) :
    (s.eip = s.params.stopIP ∧ t = s.setStatus .finished) ∨
      (s.eip ≠ s.params.stopIP ∧ ∃ u, Moves s.takeOffer u ∧ (t = u ∨ ∃ e, t = u.deliver e)) := by
  have hfetch (n : Nat) : Moves s.takeOffer (s.takeOffer.afterFetch n) := (Same.afterFetch _ n).moves
  obtain ⟨-, hstop | ⟨he, hcase⟩⟩ := step_next h
  · exact .inl hstop
  · refine .inr ⟨he, ?_⟩
    obtain ⟨v, -, ht⟩ | ⟨n, hr⟩ | ⟨n, u, e, hr, ht⟩ | ⟨n, r, ht⟩ | ⟨n, r, ht⟩ := hcase
    · exact ⟨_, Moves.refl _, .inr ⟨_, ht⟩⟩
    · exact ⟨t, (hfetch n).trans hr.moves, .inl rfl⟩
    · exact ⟨u, (hfetch n).trans hr.moves, .inr ⟨e, ht⟩⟩
    · exact ⟨_, (hfetch n).trans (Moves.refuse _ r), .inl ht⟩
    · exact ⟨_, (hfetch n).trans (Moves.decodeFault _ r), .inl ht⟩

/-- Settles O27: a step keeps `EIP` or reduces it by `ipwrap`, and so does `deliver`. -/
theorem eipRangeKept : Obligations.EipRangeKept := by
  intro s t hs h
  obtain ⟨-, rfl⟩ | ⟨-, u, hu, ht⟩ := step_moves h
  · exact hs
  · have hr : u.eipInRange := hu.eipInRange hs
    obtain rfl | ⟨e, rfl⟩ := ht
    · exact hr
    · exact State.eipInRange_deliver hr e

/-- Settles O28: the launch constants change in no part of a step but a `deliver` that hands back a new state. -/
theorem launchConstantsKept : Obligations.LaunchConstantsKept := by
  intro s t h
  obtain ⟨he, rfl⟩ | ⟨he, u, ⟨hk, -⟩, ht⟩ := step_moves h
  · exact ⟨rfl, (if_pos he).symm, .inl ⟨rfl, rfl⟩⟩
  · rw [if_neg he]
    obtain rfl | ⟨e, rfl⟩ := ht
    · exact ⟨hk.params, hk.pending, .inl ⟨hk.seg, hk.flagsOther⟩⟩
    · refine ⟨(u.deliver_params e).trans hk.params, (u.deliver_pending e).trans hk.pending, ?_⟩
      obtain hd | ⟨x, hhost, hx, hd⟩ := u.deliver_cases e
      · rw [hd]
        exact .inl ⟨(u.stopRun_seg e).trans hk.seg, (u.stopRun_flagsOther e).trans hk.flagsOther⟩
      · have hpolicy : s.params.deliver = .host := (congrArg Params.deliver hk.params).symm.trans hhost
        exact .inr ⟨u, e, x, hpolicy, hx, hd, hk.seg, hk.flagsOther⟩

/-! ### Views of the registers -/

/-- A whole-register write replaces that register and no other (10_state R101). -/
@[simp] theorem Gpr.get_set (g : Gpr) (r x : Reg) (v : Dword) :
    (g.set r v).get x = if x = r then v else g.get x := by
  cases r <;> cases x <;> rfl

/-- Bits below `n` are replaced, the others stay: the form of a write of a register's low view. -/
theorem getLsbD_extractLsb'_append {n k : Nat} (x : BitVec (n + k)) (v : BitVec n) (i : Nat) :
    (x.extractLsb' n k ++ v).getLsbD i = if i < n then v.getLsbD i else x.getLsbD i := by
  rw [BitVec.getLsbD_append]
  by_cases hlow : i < n
  · rw [if_pos hlow, if_pos hlow]
  · rw [if_neg hlow, if_neg hlow, BitVec.getLsbD_extractLsb', Nat.add_sub_cancel' (Nat.le_of_not_lt hlow)]
    by_cases hi : i - n < k
    · rw [decide_eq_true hi, Bool.true_and]
    · rw [decide_eq_false hi, Bool.false_and, BitVec.getLsbD_of_ge x i (by omega)]

/-- Bits 7:0 are replaced, the other 24 stay (10_state R103). -/
theorem getLsbD_withLowByte (x : Dword) (v : BitVec 8) (i : Nat) :
    (withLowByte x v).getLsbD i = if i < 8 then v.getLsbD i else x.getLsbD i :=
  getLsbD_extractLsb'_append (n := 8) (k := 24) x v i

/-- Bits 15:0 are replaced, bits 31:16 stay (10_state R102). -/
theorem getLsbD_withLowWord (x : Dword) (v : BitVec 16) (i : Nat) :
    (withLowWord x v).getLsbD i = if i < 16 then v.getLsbD i else x.getLsbD i :=
  getLsbD_extractLsb'_append (n := 16) (k := 16) x v i

/-- Bits 15:8 are replaced, the other 24 stay (10_state R103). -/
theorem getLsbD_withHighByte (x : Dword) (v : BitVec 8) (i : Nat) :
    (withHighByte x v).getLsbD i = if 8 ≤ i ∧ i < 16 then v.getLsbD (i - 8) else x.getLsbD i := by
  have hjoin : withHighByte x v = withLowWord x (v ++ x.extractLsb' 0 8 : BitVec (8 + 8)) := by
    unfold withHighByte withLowWord
    rw [BitVec.append_assoc]
    rfl
  rw [hjoin, getLsbD_withLowWord, BitVec.getLsbD_append]
  by_cases hlow : i < 8
  · simp [hlow, show i < 16 by omega, Nat.not_le.mpr hlow]
  · simp [hlow, Nat.le_of_not_lt hlow]

/-- A write changes no register but the one its view lies in (10_state R101-R103). -/
theorem Gpr.get_write_of_ne (g : Gpr) (w : Width) (r x : Reg) (v : BitVec w.bits) (hx : x ≠ viewHome w r) :
    (g.write w r v).get x = g.get x := by
  cases w with
  | byte =>
    have hx : x ≠ byteHome r := hx
    simp only [Gpr.write]
    split <;> simp [hx]
  | word => exact (Gpr.get_set g r x _).trans (if_neg hx)
  | dword => exact (Gpr.get_set g r x _).trans (if_neg hx)

/-- The register a view lies in after a write of the view (10_state R101-R103). -/
theorem Gpr.get_write_home (g : Gpr) (r : Reg) :
    (∀ v : BitVec 32, (g.write .dword r v).get r = v) ∧
      (∀ v : BitVec 16, (g.write .word r v).get r = withLowWord (g.get r) v) ∧
      ∀ v : BitVec 8, (g.write .byte r v).get (byteHome r) =
        if byteHigh r then withHighByte (g.get (byteHome r)) v else withLowByte (g.get (byteHome r)) v := by
  refine ⟨fun v => ?_, fun v => ?_, fun v => ?_⟩
  · simp [Gpr.write]
  · simp [Gpr.write]
  · simp only [Gpr.write]
    split <;> simp

/-- Settles O11: a write of a view is a write of its register with the bits of the view replaced. -/
theorem registerViews : Obligations.RegisterViews := by
  intro g r
  obtain ⟨hdword, hword, hbyte⟩ := g.get_write_home r
  refine ⟨⟨rfl, rfl, rfl, rfl, rfl, rfl, rfl, rfl, rfl, rfl⟩, hdword, fun v i => ?_, fun v i => ?_,
    fun w v x hx => g.get_write_of_ne w r x v hx⟩
  · rw [hword]
    exact getLsbD_withLowWord _ v i
  · rw [viewHome, hbyte]
    cases r with
    | ax | cx | dx | bx => exact getLsbD_withLowByte _ v i
    | sp | bp | si | di => exact getLsbD_withHighByte _ v i

/-! ### The FLAGS image -/

/-- One bit of the image is at its place and 0 elsewhere. -/
theorem getLsbD_flagBit (b : Bool) (k i : Nat) (hi : i < 32) : (flagBit b k).getLsbD i = (decide (i = k) && b) := by
  simp only [flagBit, BitVec.getLsbD_shiftLeft, BitVec.getLsbD_setWidth, BitVec.getLsbD_ofBool]
  obtain hlt | rfl | hgt := lt_trichotomy i k
  · simp [hlt, hlt.ne]
  · simp [hi]
  · simp [Nat.sub_ne_zero_of_lt hgt, hgt.ne']

/-- The bits the block holds or that are constant (10_state R133). -/
theorem getLsbD_heldBits : ∀ i < 32, heldBits.getLsbD i = decide (i ≤ 7 ∨ i = 11) := by decide

/-- Every bit of `FLAGS32` by its source (10_state R130). -/
theorem State.getLsbD_flags32 (s : State) (i : Nat) (hi : i < 32) :
    s.flags32.getLsbD i =
      ((s.flagsOther.getLsbD i && !decide (i ≤ 7 ∨ i = 11)) || decide (i = 1) || (decide (i = 0) && s.flag .cf) ||
        (decide (i = 2) && s.flag .pf) || (decide (i = 4) && s.flag .af) || (decide (i = 6) && s.flag .zf) ||
        (decide (i = 7) && s.flag .sf) || (decide (i = 11) && s.flag .of)) := by
  have hconst : (0x2#32).getLsbD i = decide (i = 1) := by
    revert i
    decide
  simp only [State.flags32, BitVec.getLsbD_or, BitVec.getLsbD_and, BitVec.getLsbD_not, getLsbD_heldBits i hi,
    getLsbD_flagBit _ _ i hi, hconst, hi, decide_true, Bool.true_and]

/-- The bits that no flag of the block and no constant takes are those of `flagsOther` (10_state R130, R133). -/
theorem State.getLsbD_flags32_other (s : State) (i : Nat) (hi : (8 ≤ i ∧ i ≤ 10) ∨ (12 ≤ i ∧ i ≤ 31)) :
    s.flags32.getLsbD i = s.flagsOther.getLsbD i := by
  have h7 : ¬i ≤ 7 := by omega
  have hplaces : i ≠ 0 ∧ i ≠ 1 ∧ i ≠ 2 ∧ i ≠ 4 ∧ i ≠ 6 ∧ i ≠ 7 ∧ i ≠ 11 := by omega
  rw [s.getLsbD_flags32 i (by omega)]
  simp [h7, hplaces]

/-- Reads of flags in turn change no resolved value (40_flag_engine R450). -/
theorem FlagEngine.value_resolve_foldl (L : List Flag) (e : FlagEngine) (f : Flag) :
    (L.foldl (fun e g => e.resolve g) e).value f = e.value f := by
  induction L generalizing e with
  | nil => rfl
  | cons g L ih => rw [List.foldl_cons, ih, FlagEngine.value_resolve]

/-- The snapshot changes no resolved flag (10_state R150). -/
theorem State.flag_snapshot (s : State) (f : Flag) : s.snapshot.2.flag f = s.flag f :=
  FlagEngine.value_resolve_foldl _ s.flags f

/-- Settles O20: the image read bit by bit, and a snapshot that fills the flag cache alone. -/
theorem flagsImage : Obligations.FlagsImage := by
  intro s
  refine ⟨⟨?_, ?_, ?_, ?_, ?_, ?_, ?_, ?_, ?_, s.getLsbD_flags32_other⟩, ⟨rfl, rfl, rfl⟩, s.flag_snapshot, rfl⟩
  all_goals
    rw [s.getLsbD_flags32 _ (by decide)]
    simp

end Sys2Proof.Machine
end

section
/-!
SUPPORT. The statements about memory: the byte order of an access, a read after a write, and the canonical form of
memory, which every step keeps since an instruction stores at most once.
-/
namespace Sys2Proof.Machine

/-! ### At most one store -/

/-- From `s` to `t`, memory is as before or takes one store to a location (30_encoding R345: at most one memory
operand; R338). -/
inductive StoresAtMostOnce (s t : State) : Prop where
  | kept (hmem : t.mem = s.mem)
  | stored (u : State) (w : Width) (l : Loc) (v : BitVec w.bits) (hu : u.mem = s.mem)
      (hmem : t.mem = (u.storeLoc w l v).mem)

/-- At most one store keeps the canonical form. -/
theorem StoresAtMostOnce.mem_wf {s t : State} (h : StoresAtMostOnce s t) (hs : s.mem.wf = true) : t.mem.wf = true := by
  cases h with
  | kept hmem => rwa [hmem]
  | stored u w l v hu hmem =>
    rw [hmem]
    exact u.storeLoc_wf w l v (by rwa [hu])

/-- CMP stores nothing, every other classic operation once (41_alu_binary R501). -/
theorem StoresAtMostOnce.binary (op : BinOp) (w : Width) (h : Head) (d : Dest) (x : Operand) (s : State) :
    StoresAtMostOnce s (s.binary op w h d x) := by
  unfold State.binary
  by_cases hst : op.stores = true
  · simp only [if_pos hst]
    exact .stored _ w _ _ (by simp) rfl
  · exact .kept (by simp [hst])

/-- A count of 0 stores nothing, any other count once (44_shift_rotate R801, R802). -/
theorem StoresAtMostOnce.shift (op : ShiftOp) (w : Width) (h : Head) (e : EOperand) (n : Operand) (s : State) :
    StoresAtMostOnce s (s.shift op w h e n) := by
  simp only [State.shift]
  split
  · exact .kept (by simp)
  · exact .stored _ w _ _ (by simp) rfl

/-- IN stores in a register, and a refused one nowhere (46_io_interrupt R1001, R1002). -/
theorem State.portIn_mem (w : Width) (h : Head) (p : Operand) (s : State) (hp : p.isRm = false) :
    (s.portIn w h p).mem = s.mem := by
  by_cases hw : w = .dword
  · rw [State.portIn, if_pos hw, State.refuse_mem]
  · obtain ⟨v, -, -, hmem, -⟩ := State.portIn_spec w h p s hw hp
    exact hmem

/-- OUT stores nothing (46_io_interrupt R1001, R1003). -/
theorem State.portOut_mem (w : Width) (h : Head) (p : Operand) (s : State) : (s.portOut w h p).mem = s.mem := by
  unfold State.portOut
  split <;> simp

/-- A jump stores nothing (45_flag_consumers R921). -/
theorem State.jumpIf_mem (c : Cond) (h : Head) (rel : Dword) (s : State) : (s.jumpIf c h rel).mem = s.mem := by
  obtain ⟨-, -, hmem, -⟩ := State.jumpIf_spec c h rel s
  exact hmem

/-- MUL, IMUL with one operand, and a division that completes store in registers (43_muldiv R701). -/
theorem State.pair_mem (w : Width) (h : Head) (e : EOperand) (ds rs : List (Width × Reg)) (hi lo : BitVec w.bits)
    (act : FlagActions) (s : State) :
    ((((s.loadImplicit w h e ds rs).2.writePair w hi lo).writeFlags act).advance h.len).mem = s.mem := by
  obtain ⟨-, -, hmem, -⟩ := State.pair_spec w h e ds rs hi lo act s
  exact hmem

/-- An instruction that raises no event stores at most once. -/
theorem Ran.storesAtMostOnce {s t : State} (h : Ran s t) : StoresAtMostOnce s t := by
  cases h with
  | binary op w h d x => exact .binary op w h d x s
  | test w h x y => exact .kept (by simp [State.test])
  | unary op w h d => exact .stored _ w _ _ (by simp) rfl
  | mul w h e =>
    rw [State.mul_eq]
    exact .kept (State.pair_mem w h e _ _ _ _ _ s)
  | imul w h e =>
    rw [State.imul_eq]
    exact .kept (State.pair_mem w h e _ _ _ _ _ s)
  | imul2 w h r e => exact .stored _ w _ _ (by simp) rfl
  | imul3 w h r e x => exact .stored _ w _ _ (by simp) rfl
  | divided w h e r q => exact .kept (State.pair_mem w h e _ _ r q _ s)
  | shift op w h e n => exact .shift op w h e n s
  | clc | stc | cmc | intoNot => exact .kept rfl
  | lahf h => exact .stored _ .byte _ _ (by simp) rfl
  | sahf h => exact .kept (State.loadValue_mem s .byte h _)
  | jumpShort c h v => exact .kept ((State.jumpIf_mem c h _ _).trans (State.loadValue_mem s .dword h _))
  | jumpNear c h v => exact .kept ((State.jumpIf_mem c h _ _).trans (State.loadValue_mem s _ h _))
  | setcc c h e => exact .stored _ .byte _ _ (by simp) rfl
  | portIn w h p hp => exact .kept (s.portIn_mem w h p hp)
  | portOut w h p => exact .kept (s.portOut_mem w h p)

/-- Nothing is stored before an event is handed over (60_exceptions R1105; 46_io_interrupt R1010). -/
theorem Raised.mem {s u : State} {e : Event} (h : Raised s u e) : u.mem = s.mem := by
  cases h with
  | divide w h e => exact State.loadImplicit_mem s w h e _ _
  | undefinedOpcode | int3 | into => rfl
  | intN h v => exact State.loadValue_mem s .byte h _

/-- `deliver` keeps the canonical form: it takes over no memory that is out of it (log 15). -/
theorem State.deliver_mem_wf {s : State} (h : s.mem.wf = true) (e : Event) : (s.deliver e).mem.wf = true := by
  obtain hd | ⟨x, -, -, hd⟩ := s.deliver_cases e
  · rwa [hd, State.stopRun_mem]
  · rw [hd, State.resume_mem]
    split
    · assumption
    · exact h

/-- Settles O26: a step stores at most once and then at most delivers an event, both of which keep the form. -/
theorem memoryCanonicalKept : Obligations.MemoryCanonicalKept := by
  intro s t hs h
  have hfetch (n : Nat) : (s.takeOffer.afterFetch n).mem.wf = true := by rwa [State.afterFetch_mem]
  obtain ⟨-, ⟨-, rfl⟩ | ⟨-, hcase⟩⟩ := step_next h
  · exact hs
  · obtain ⟨v, -, rfl⟩ | ⟨n, hr⟩ | ⟨n, u, e, hr, rfl⟩ | ⟨n, r, rfl⟩ | ⟨n, r, rfl⟩ := hcase
    · exact State.deliver_mem_wf (s := s.takeOffer) hs _
    · exact hr.storesAtMostOnce.mem_wf (hfetch n)
    · exact State.deliver_mem_wf (by rw [hr.mem]; exact hfetch n) e
    · exact hfetch n
    · exact hfetch n

/-! ### The bytes of a value -/

/-- A byte below a value of `n` bits: 256 times the value and the byte. -/
theorem toNat_append_byte {n : Nat} (x : BitVec n) (y : Byte) : (x ++ y).toNat = 256 * x.toNat + y.toNat := by
  rw [BitVec.toNat_append, ← Nat.shiftLeft_add_eq_or_of_lt y.isLt, Nat.shiftLeft_eq]
  omega

/-- `assemble` is the sum of the bytes, byte `j` times `256 ^ j` (20_memory R203). The sum is split by
`List.sum_range_succ`: by computation the kernel would count `256 ^ 3` down in unary. -/
theorem toNat_assemble (w : Width) (f : Nat → Byte) :
    (assemble w f).toNat = ((List.range w.bytes).map fun j => (f j).toNat * 256 ^ j).sum := by
  cases w with
  | byte => simp [assemble, Width.bytes]
  | word =>
    simp only [assemble, toNat_append_byte, Width.bytes, List.sum_range_succ, List.range_zero, List.map_nil,
      List.sum_nil]
    omega
  | dword =>
    simp only [assemble, toNat_append_byte, Width.bytes, List.sum_range_succ, List.range_zero, List.map_nil,
      List.sum_nil]
    omega

/-- `assemble` reads the bytes below the width. -/
theorem assemble_congr {w : Width} {f g : Nat → Byte} (h : ∀ j, j < w.bytes → f j = g j) :
    assemble w f = assemble w g := by
  refine BitVec.eq_of_toNat_eq ?_
  rw [toNat_assemble, toNat_assemble]
  refine congrArg List.sum (List.map_congr_left fun j hj => ?_)
  rw [h j (List.mem_range.mp hj)]

/-- Byte `j` of a value is a base-256 digit of it. -/
theorem toNat_valueByte {n : Nat} (v : BitVec n) (j : Nat) : (valueByte v j).toNat = v.toNat / 256 ^ j % 256 := by
  rw [valueByte, BitVec.extractLsb'_toNat, Nat.shiftRight_eq_div_pow, Nat.pow_mul]

/-- The bytes of a value put together again are the value (20_memory R203). -/
theorem assemble_valueByte (w : Width) (v : BitVec w.bits) : assemble w (valueByte v) = v := by
  refine BitVec.eq_of_toNat_eq ?_
  cases w with
  | byte =>
    have hv : v.toNat < 2 ^ 8 := v.isLt
    simp only [assemble, toNat_valueByte, Nat.reducePow, Nat.div_one]
    omega
  | word =>
    have hv : v.toNat < 2 ^ 16 := v.isLt
    simp only [assemble, toNat_append_byte, toNat_valueByte, Nat.reducePow, Nat.div_one]
    omega
  | dword =>
    have hv : v.toNat < 2 ^ 32 := v.isLt
    simp only [assemble, toNat_append_byte, toNat_valueByte, Nat.reducePow, Nat.div_one]
    omega

/-! ### The byte order of an access -/

section
variable {s : State} {w : Width} {lin : Dword}

/-- The address of a byte is the sum over the integers, reduced and masked (20_memory R203). -/
theorem State.byteAddr_eq_ofNat (s : State) (lin : Dword) (j : Nat) :
    s.byteAddr lin j = BitVec.ofNat 32 (lin.toNat + j) &&& s.params.linearMask := by
  rw [State.byteAddr, BitVec.ofNat_add, BitVec.ofNat_toNat, BitVec.setWidth_eq]

/-- Byte 0 of an access at the address of a byte lies there: a second mask changes nothing (20_memory R203). -/
theorem State.byteAddr_byteAddr (s : State) (lin : Dword) (j : Nat) :
    s.byteAddr (s.byteAddr lin j) 0 = s.byteAddr lin j := by
  simp [State.byteAddr, BitVec.and_assoc]

/-- No byte of an access that touches no memory-mapped byte is one. -/
theorem State.isMmio_byteAddr (h : s.touchesMmio w lin = false) {j : Nat} (hj : j < w.bytes) :
    s.isMmio (s.byteAddr lin j) = false := by
  rw [State.touchesMmio, List.any_eq_false] at h
  exact Bool.eq_false_iff.mpr (h j (List.mem_range.mpr hj))

/-- `touchesMmio` reads the launch parameters alone. -/
theorem State.touchesMmio_congr {t : State} (hp : t.params = s.params) (w : Width) (lin : Dword) :
    t.touchesMmio w lin = s.touchesMmio w lin := by
  simp only [State.touchesMmio, State.isMmio_congr hp, State.byteAddr_congr hp]

/-- A byte access at the address of a byte of a RAM access is one of RAM (20_memory R203, R206). -/
theorem State.touchesMmio_byte_byteAddr (h : s.touchesMmio w lin = false) {j : Nat} (hj : j < w.bytes) :
    s.touchesMmio .byte (s.byteAddr lin j) = false := by
  simp [State.touchesMmio, Width.bytes, State.byteAddr_byteAddr, State.isMmio_byteAddr h hj]

/-- A read of RAM takes its bytes (20_memory R203, R205). -/
theorem State.memValue_of_ram (h : s.touchesMmio w lin = false) :
    s.memValue w lin = assemble w fun j => s.byteAt (s.byteAddr lin j) := by
  simp [State.memValue, h]

/-- The last number below `n` that meets `p` is the first found from the top. -/
theorem find?_reverse_range {p : Nat → Bool} {n j : Nat} (hj : j < n) (hp : p j = true)
    (hlast : ∀ i, i < n → j < i → p i = false) : (List.range n).reverse.find? p = some j := by
  induction n with
  | zero => omega
  | succ n ih =>
    rw [List.range_succ, List.reverse_concat, List.find?_cons]
    obtain rfl | hlt : j = n ∨ j < n := by omega
    · rw [hp]
    · rw [hlast n (by omega) hlt]
      exact ih hlt fun i hi => hlast i (by omega)

/-- The byte of an access at the address of byte `j`, where no later byte lies there too. -/
theorem State.byteIndex_byteAddr {j : Nat} (hj : j < w.bytes)
    (hlast : ∀ i, i < w.bytes → j < i → s.byteAddr lin i ≠ s.byteAddr lin j) :
    s.byteIndex w lin (s.byteAddr lin j) = some j :=
  find?_reverse_range hj (beq_self_eq_true _) fun i hi hij => beq_false_of_ne (hlast i hi hij)

/-- An address outside an access is none of its bytes. -/
theorem State.byteIndex_eq_none {a : Dword} (ha : ∀ j, j < w.bytes → s.byteAddr lin j ≠ a) :
    s.byteIndex w lin a = none := by
  rw [State.byteIndex, List.find?_eq_none]
  intro j hj
  rw [List.mem_reverse, List.mem_range] at hj
  simpa using ha j hj

/-- A write leaves at the address of byte `j` that byte, unless a later one lies there too (20_memory R203). -/
theorem State.byteAt_memWrite_byteAddr (h : s.touchesMmio w lin = false) (v : BitVec w.bits) {j : Nat}
    (hj : j < w.bytes) (hlast : ∀ i, i < w.bytes → j < i → s.byteAddr lin i ≠ s.byteAddr lin j) :
    (s.memWrite w lin v).byteAt (s.byteAddr lin j) = valueByte v j := by
  rw [State.byteAt_memWrite, State.byteIndex_byteAddr hj hlast]
  simp [State.isMmio_byteAddr h hj]

/-- A write leaves every byte outside the access (20_memory R203). -/
theorem State.byteAt_memWrite_of_outside (s : State) (v : BitVec w.bits) {a : Dword}
    (ha : ∀ j, j < w.bytes → s.byteAddr lin j ≠ a) : (s.memWrite w lin v).byteAt a = s.byteAt a := by
  rw [State.byteAt_memWrite, State.byteIndex_eq_none ha]

end

/-- Settles O12: a read is the sum of its bytes, and a write puts them at the addresses a read takes them from. -/
theorem byteOrder : Obligations.ByteOrder := by
  intro s w lin
  refine ⟨s.byteAddr_eq_ofNat lin, fun h => ?_, fun v h => ⟨fun j hj hlast => ?_, fun a ha => ?_⟩⟩
  · rw [State.memRead_fst, State.memValue_of_ram h, toNat_assemble]
  · exact State.byteAt_memWrite_byteAddr h v hj hlast
  · exact s.byteAt_memWrite_of_outside v ha

/-! ### A read after a write -/

section
variable {s : State} {w : Width} {lin : Dword} (hram : s.touchesMmio w lin = false)
  (hdistinct : ∀ i j, i < w.bytes → j < w.bytes → s.byteAddr lin i = s.byteAddr lin j → i = j)
include hram hdistinct

/-- Where the addresses of an access are distinct, each holds its byte of the value written. -/
theorem State.byteAt_memWrite_of_distinct (v : BitVec w.bits) {j : Nat} (hj : j < w.bytes) :
    (s.memWrite w lin v).byteAt (s.byteAddr lin j) = valueByte v j :=
  State.byteAt_memWrite_byteAddr hram v hj fun i hi hij he => hij.ne' (hdistinct i j hi hj he)

/-- A read of the same width gives the value written (20_memory R205). -/
theorem State.memValue_memWrite (v : BitVec w.bits) : (s.memWrite w lin v).memValue w lin = v := by
  have hp : (s.memWrite w lin v).params = s.params := s.memWrite_params w lin v
  rw [State.memValue_of_ram ((State.touchesMmio_congr hp w lin).trans hram)]
  calc assemble w (fun j => (s.memWrite w lin v).byteAt ((s.memWrite w lin v).byteAddr lin j))
      _ = assemble w (valueByte v) := assemble_congr fun j hj => by
        rw [State.byteAddr_congr hp, State.byteAt_memWrite_of_distinct hram hdistinct v hj]
      _ = v := assemble_valueByte w v

/-- A byte read gives its byte of the value written (20_memory R205). -/
theorem State.memValue_byte_memWrite (v : BitVec w.bits) {j : Nat} (hj : j < w.bytes) :
    (s.memWrite w lin v).memValue .byte (s.byteAddr lin j) = valueByte v j := by
  have hp : (s.memWrite w lin v).params = s.params := s.memWrite_params w lin v
  have hbyte : s.touchesMmio .byte (s.byteAddr lin j) = false := State.touchesMmio_byte_byteAddr hram hj
  rw [State.memValue_of_ram ((State.touchesMmio_congr hp _ _).trans hbyte), assemble, State.byteAddr_congr hp,
    State.byteAddr_byteAddr, State.byteAt_memWrite_of_distinct hram hdistinct v hj]

end

/-- Settles O13: each address holds the byte last written to it, and the bytes together are the value. -/
theorem memoryReadAfterWrite : Obligations.MemoryReadAfterWrite := by
  intro s w lin v v' hram hdistinct
  have hp : (s.memWrite w lin v).params = s.params := s.memWrite_params w lin v
  refine ⟨State.memValue_memWrite hram hdistinct v, fun j hj => State.memValue_byte_memWrite hram hdistinct v hj,
    State.memValue_memWrite ((State.touchesMmio_congr hp w lin).trans hram) ?_ v'⟩
  simpa only [State.byteAddr_congr hp] using hdistinct

end Sys2Proof.Machine
end

section
/-!
SUPPORT. The parsers of the decoder, each as a relation: it gives a value exactly where the bytes begin with the
encoding of that value, which is well-formed.
-/
namespace Sys2Proof

/-! ### Sequences -/

@[simp] theorem Parse.bind_done {α β : Type} (a : α) (bs : List Byte) (f : α → List Byte → Parse β) :
    (Parse.done a bs).bind f = f a bs := rfl

@[simp] theorem Parse.bind_stop {α β : Type} (x : DecodeStop) (bs : List Byte) (f : α → List Byte → Parse β) :
    (Parse.stop x bs).bind f = .stop x bs := rfl

@[simp] theorem Parse.map_done {α β : Type} (f : α → β) (a : α) (bs : List Byte) :
    (Parse.done a bs).map f = .done (f a) bs := rfl

theorem Parse.bind_eq_done {α β : Type} {p : Parse α} {f : α → List Byte → Parse β} {b : β} {rest : List Byte} :
    p.bind f = .done b rest ↔ ∃ a bs, p = .done a bs ∧ f a bs = .done b rest := by
  cases p <;> simp

theorem Parse.map_eq_done {α β : Type} {p : Parse α} {f : α → β} {b : β} {rest : List Byte} :
    p.map f = .done b rest ↔ ∃ a, p = .done a rest ∧ f a = b := by
  cases p <;> simp [Parse.map, and_comm]

theorem Parse.map_map {α β γ : Type} (p : Parse α) (f : α → β) (g : β → γ) :
    (p.map f).map g = p.map fun a => g (f a) := by
  cases p <;> rfl

/-- Two parts read in turn, and a value made of both, as one reading of the pair. -/
theorem Parse.bind_map_pair {α β γ : Type} (p : Parse α) (q : List Byte → Parse β) (g : α → β → γ) :
    (p.bind fun a bs => (q bs).map (g a)) = (p.bind fun a bs => (q bs).map fun b => (a, b)).map fun x => g x.1 x.2 := by
  cases p with
  | done a bs => exact (Parse.map_map (q bs) (fun b => (a, b)) fun x => g x.1 x.2).symm
  | stop x bs => rfl

/-! ### Bytes, words and immediates -/

theorem fetch8_eq_done {bs rest : List Byte} {b : Byte} : fetch8 bs = .done b rest ↔ bs = b :: rest := by
  cases bs <;> simp [fetch8]

/-- The bytes of a 16-bit field are those that `fetch16` puts together (20_memory R203). -/
theorem bytes16_append (a b : Byte) : bytes16 (b ++ a : BitVec (8 + 8)) = [a, b] := by
  have hlow : (b ++ a : BitVec (8 + 8)).extractLsb' 0 8 = a := BitVec.extractLsb'_append_eq_right
  have hhigh : (b ++ a : BitVec (8 + 8)).extractLsb' 8 8 = b := BitVec.extractLsb'_append_eq_left
  exact congrArg₂ (fun x y => [x, y]) hlow hhigh

theorem fetch16_eq_done {bs rest : List Byte} {v : BitVec 16} : fetch16 bs = .done v rest ↔ bs = bytes16 v ++ rest := by
  constructor
  · intro h
    obtain ⟨a, bs, ha, h⟩ := Parse.bind_eq_done.mp h
    obtain ⟨b, bs, hb, h⟩ := Parse.bind_eq_done.mp h
    rw [fetch8_eq_done] at ha hb
    cases h
    rw [bytes16_append, ha, hb]
    rfl
  · rintro rfl
    exact fetch16_bytes16 v rest

/-- The bytes of a 32-bit field are those that `fetch32` puts together (20_memory R203). -/
theorem bytes32_append (a b : BitVec 16) : bytes32 (b ++ a : BitVec (16 + 16)) = bytes16 a ++ bytes16 b := by
  have hlow (k : Nat) (hk : k + 8 ≤ 16) : (b ++ a : BitVec (16 + 16)).extractLsb' k 8 = a.extractLsb' k 8 :=
    BitVec.extractLsb'_append_eq_of_add_le hk
  have hhigh (k : Nat) (hk : 16 ≤ k) : (b ++ a : BitVec (16 + 16)).extractLsb' k 8 = b.extractLsb' (k - 16) 8 :=
    BitVec.extractLsb'_append_eq_of_le hk
  exact congrArg₂ (· ++ ·)
    (congrArg₂ (fun x y => [x, y]) (hlow 0 (by decide)) (hlow 8 (by decide)))
    (congrArg₂ (fun x y => [x, y]) (hhigh 16 (by decide)) (hhigh 24 (by decide)))

theorem fetch32_eq_done {bs rest : List Byte} {v : BitVec 32} : fetch32 bs = .done v rest ↔ bs = bytes32 v ++ rest := by
  constructor
  · intro h
    obtain ⟨a, bs, ha, h⟩ := Parse.bind_eq_done.mp h
    obtain ⟨b, bs, hb, h⟩ := Parse.bind_eq_done.mp h
    rw [fetch16_eq_done] at ha hb
    cases h
    rw [bytes32_append, ha, hb, List.append_assoc]
  · rintro rfl
    exact fetch32_bytes32 v rest

theorem fetchIb_eq_done {bs rest : List Byte} {v : BitVec 8} : fetchIb bs = .done v rest ↔ bs = v :: rest := by
  cases bs with
  | nil => simp [fetchIb, fetchImmediate, fetch8, Parse.map]
  | cons b bs => simp

/-- What an `Iz` or `Jz` field is read as: a field of the operand size, a 16-bit one zero-extended (30_encoding
R342). -/
theorem fetchIz_eq_done {z : Size} {bs rest : List Byte} {v : BitVec 32} :
    fetchIz z bs = .done v rest ↔ (ImmField.iz v).ok z = true ∧ bs = encodeImm z (.iz v) ++ rest := by
  constructor
  · intro h
    cases z with
    | b16 =>
      obtain ⟨x, hx, rfl⟩ := Parse.map_eq_done.mp h
      rw [fetch16_eq_done] at hx
      have hlt : x.toNat < 2 ^ 16 := x.isLt
      exact ⟨by simp only [ImmField.ok, BitVec.toNat_setWidth, decide_eq_true_eq]; omega, by simpa [encodeImm] using hx⟩
    | b32 => exact ⟨rfl, fetch32_eq_done.mp h⟩
  · rintro ⟨hok, rfl⟩
    exact fetchIz_encodeImm z v rest hok

/-! ### Displacements and the `r/m` operand -/

/-- The three memory forms by `mod` (30_encoding R312). -/
theorem mod_cases : ∀ mod : BitVec 2, mod ≠ 3#2 → mod = 0#2 ∨ mod = 1#2 ∨ mod = 2#2 := by decide

theorem fetchDisp16_eq_done {mod : BitVec 2} (hmod : mod ≠ 3#2) {bs rest : List Byte} {d : Disp16} :
    fetchDisp16 mod bs = .done d rest ↔ d.mod = mod ∧ bs = d.bytes ++ rest := by
  constructor
  · intro h
    obtain rfl | rfl | rfl := mod_cases mod hmod
    · cases h
      exact ⟨rfl, rfl⟩
    · obtain ⟨x, hx, rfl⟩ := Parse.map_eq_done.mp h
      exact ⟨rfl, fetch8_eq_done.mp hx⟩
    · obtain ⟨x, hx, rfl⟩ := Parse.map_eq_done.mp h
      exact ⟨rfl, fetch16_eq_done.mp hx⟩
  · rintro ⟨rfl, rfl⟩
    exact fetchDisp16_bytes d rest

theorem fetchDisp32_eq_done {mod : BitVec 2} (hmod : mod ≠ 3#2) {bs rest : List Byte} {d : Disp32} :
    fetchDisp32 mod bs = .done d rest ↔ d.mod = mod ∧ bs = d.bytes ++ rest := by
  constructor
  · intro h
    obtain rfl | rfl | rfl := mod_cases mod hmod
    · cases h
      exact ⟨rfl, rfl⟩
    · obtain ⟨x, hx, rfl⟩ := Parse.map_eq_done.mp h
      exact ⟨rfl, fetch8_eq_done.mp hx⟩
    · obtain ⟨x, hx, rfl⟩ := Parse.map_eq_done.mp h
      exact ⟨rfl, fetch32_eq_done.mp hx⟩
  · rintro ⟨rfl, rfl⟩
    exact fetchDisp32_bytes d rest

/-- A ModRM byte from its `reg` field and the other two. -/
theorem modrmByte_eq {b : Byte} {mod : BitVec 2} {rm : BitVec 3} (hmod : modField b = mod) (hrm : rmField b = rm) :
    modrmByte mod (regField b) rm = b := by
  rw [← hmod, ← hrm, modrmByte_fields]

theorem Reg.ofBits_eq {b : BitVec 3} {r : Reg} : Reg.ofBits b = r ↔ b = r.toBits :=
  ⟨fun h => by rw [← h, Reg.toBits_ofBits], fun h => by rw [h, Reg.ofBits_toBits]⟩

theorem Base16.ofBits_eq {b : BitVec 3} {r : Base16} : Base16.ofBits b = r ↔ b = r.toBits :=
  ⟨fun h => by rw [← h, Base16.toBits_ofBits], fun h => by rw [h, Base16.ofBits_toBits]⟩

section
variable {modrm : Byte} {bs rest : List Byte} {e : EOperand}

/-- A 16-bit form is read from its encoding alone (30_encoding R315, R316). -/
theorem encode_of_fetchMem16 (hmod : modField modrm ≠ 3#2)
    (h : fetchMem16 (modField modrm) (rmField modrm) bs = .done e rest) :
    e.ok .b16 = true ∧ modrm :: bs = encodeEOperand (regField modrm) e ++ rest := by
  unfold fetchMem16 at h
  split at h
  case isTrue hd =>
    obtain ⟨d, hx, rfl⟩ := Parse.map_eq_done.mp h
    simp [EOperand.ok, encodeEOperand, modrmByte_eq hd.1 hd.2, fetch16_eq_done.mp hx]
  case isFalse hd =>
    obtain ⟨d, hx, rfl⟩ := Parse.map_eq_done.mp h
    obtain ⟨hm, rfl⟩ := (fetchDisp16_eq_done hmod).mp hx
    have hform : Base16.ofBits (rmField modrm) = .bp → d ≠ .none := fun hb hn =>
      hd ⟨by rw [← hm, Disp16.mod_zero]; exact hn, Base16.ofBits_eq.mp hb⟩
    exact ⟨by simpa [EOperand.ok, imp_iff_not_or] using hform,
      by simp [encodeEOperand, Base16.toBits_ofBits, modrmByte_eq hm.symm rfl]⟩

/-- A SIB form is read from its encoding alone (30_encoding R320, R321, R323). -/
theorem encode_of_fetchSib (hmod : modField modrm ≠ 3#2) (hrm : rmField modrm = 4#3)
    (h : fetchSib (modField modrm) bs = .done e rest) :
    e.ok .b32 = true ∧ modrm :: bs = encodeEOperand (regField modrm) e ++ rest := by
  obtain ⟨sib, bs, hs, hform⟩ := Parse.bind_eq_done.mp h
  rw [fetch8_eq_done] at hs
  subst hs
  split at hform
  case isTrue hd =>
    obtain ⟨d, hx, rfl⟩ := Parse.map_eq_done.mp hform
    simp [EOperand.ok, encodeEOperand, modrmByte_eq hd.1 hrm, Reg.toBits_ofBits, modrmByte_eq rfl hd.2,
      fetch32_eq_done.mp hx]
  case isFalse hd =>
    obtain ⟨d, hx, rfl⟩ := Parse.map_eq_done.mp hform
    obtain ⟨hm, rfl⟩ := (fetchDisp32_eq_done hmod).mp hx
    have hne : Reg.ofBits (rmField sib) = .bp → d ≠ .none := fun hb hn =>
      hd ⟨by rw [← hm, Disp32.mod_zero]; exact hn, Reg.ofBits_eq.mp hb⟩
    exact ⟨by simpa [EOperand.ok, imp_iff_not_or] using hne,
      by simp [encodeEOperand, Reg.toBits_ofBits, modrmByte_eq hm.symm hrm, modrmByte_fields]⟩

/-- A 32-bit form is read from its encoding alone (30_encoding R320). -/
theorem encode_of_fetchMem32 (hmod : modField modrm ≠ 3#2)
    (h : fetchMem32 (modField modrm) (rmField modrm) bs = .done e rest) :
    e.ok .b32 = true ∧ modrm :: bs = encodeEOperand (regField modrm) e ++ rest := by
  unfold fetchMem32 at h
  split at h
  case isTrue hrm => exact encode_of_fetchSib hmod hrm h
  case isFalse hrm =>
    split at h
    case isTrue hd =>
      obtain ⟨d, hx, rfl⟩ := Parse.map_eq_done.mp h
      simp [EOperand.ok, encodeEOperand, modrmByte_eq hd.1 hd.2, fetch32_eq_done.mp hx]
    case isFalse hd =>
      obtain ⟨d, hx, rfl⟩ := Parse.map_eq_done.mp h
      obtain ⟨hm, rfl⟩ := (fetchDisp32_eq_done hmod).mp hx
      have hsp : Reg.ofBits (rmField modrm) ≠ .sp := fun hb => hrm (Reg.ofBits_eq.mp hb)
      have hform : Reg.ofBits (rmField modrm) = .bp → d ≠ .none := fun hb hn =>
        hd ⟨by rw [← hm, Disp32.mod_zero]; exact hn, Reg.ofBits_eq.mp hb⟩
      exact ⟨by simpa [EOperand.ok, imp_iff_not_or, hsp] using hform,
        by simp [encodeEOperand, Reg.toBits_ofBits, modrmByte_eq hm.symm rfl]⟩

/-- What the `r/m` operand is read as: the form whose encoding, with its ModRM byte, was read (30_encoding
R310-R323). -/
theorem fetchEOperand_eq_done {z : Size} :
    fetchEOperand false z modrm bs = .done e rest ↔
      e.ok z = true ∧ modrm :: bs = encodeEOperand (regField modrm) e ++ rest := by
  constructor
  · intro h
    unfold fetchEOperand at h
    split at h
    case isTrue hmod =>
      cases h
      simp [EOperand.ok, encodeEOperand, Reg.toBits_ofBits, modrmByte_eq hmod rfl]
    case isFalse hmod =>
      cases z with
      | b16 => exact encode_of_fetchMem16 hmod h
      | b32 => exact encode_of_fetchMem32 hmod h
  · rintro ⟨hok, he⟩
    obtain ⟨b, t, hb, -, hf⟩ := fetchEOperand_encode (regField modrm) e z rest hok
    rw [hb] at he
    cases he
    exact hf

end

/-! ### Prefixes -/

theorem toByte_of_prefixByte {b : Byte} {p : Prefix} (h : prefixByte b = .accepted p) : p.toByte = b := by
  refine BitVec.eq_of_toNat_eq ?_
  unfold prefixByte at h
  split at h <;> cases h <;> symm <;> assumption

/-- What the prefixes are read as: agreeing prefixes, up to a byte that is none (30_encoding R305, R308). -/
theorem scanPrefixes_eq_done {seen : Option Seg} {bs rest : List Byte} {ps : List Prefix} :
    scanPrefixes seen bs = .done ps rest ↔
      segmentsAgree seen ps = true ∧ bs = ps.map Prefix.toByte ++ rest ∧
        ∃ b more, rest = b :: more ∧ prefixByte b = .opcode := by
  constructor
  · intro h
    induction bs generalizing seen ps with
    | nil => cases h
    | cons b bs ih =>
      unfold scanPrefixes at h
      split at h
      case h_1 hb =>
        cases h
        exact ⟨rfl, rfl, b, bs, rfl, hb⟩
      case h_2 => cases h
      case h_3 => cases h
      case h_4 p hp =>
        split at h
        case isTrue => cases h
        case isFalse hc =>
          obtain ⟨ps, hps, rfl⟩ := Parse.map_eq_done.mp h
          obtain ⟨ha, hbs, hrest⟩ := ih hps
          exact ⟨by simp [segmentsAgree, ha, hc], by simp [hbs, toByte_of_prefixByte hp], hrest⟩
  · rintro ⟨ha, rfl, b, more, rfl, hb⟩
    exact scanPrefixes_encode ps seen b more ha hb

end Sys2Proof
end

section
/-!
SUPPORT. The opcode map against the encoder: what a row makes has the row's opcode and parts, every instruction is made
by the row of its opcode, and a row reads an instruction from its encoding and from nothing else.
-/
namespace Sys2Proof

/-! ### What a row makes -/

/-- The instructions a group row makes, each with the parts the kind of the row gives it (30_encoding R311). -/
inductive GroupRow.Makes : GroupRow → Fields → Instr → Prop where
  | e (mk : Head → EOperand → Instr) (h : Head) (e : EOperand) : Makes (.e mk) (.e h e .none) (mk h e)
  | eIb (mk : Head → EOperand → BitVec 8 → Instr) (h : Head) (e : EOperand) (v : BitVec 8) :
      Makes (.eIb mk) (.e h e (.ib v)) (mk h e v)
  | eIz (mk : Head → EOperand → BitVec 32 → Instr) (h : Head) (e : EOperand) (v : BitVec 32) :
      Makes (.eIz mk) (.e h e (.iz v)) (mk h e v)
  | aliasE (mk : Head → Aliased EOperand → Instr) (h : Head) (a : Aliased EOperand) :
      Makes (.aliasE mk) (.aliasRow h a id fun _ => .none) (mk h a)
  | aliasEIb (mk : Head → Aliased (EOperand × BitVec 8) → Instr) (h : Head) (a : Aliased (EOperand × BitVec 8)) :
      Makes (.aliasEIb mk) (.aliasRow h a (·.1) fun x => .ib x.2) (mk h a)
  | aliasEIz (mk : Head → Aliased (EOperand × BitVec 32) → Instr) (h : Head) (a : Aliased (EOperand × BitVec 32)) :
      Makes (.aliasEIz mk) (.aliasRow h a (·.1) fun x => .iz x.2) (mk h a)
  | undefined (mk : Head → ModRmBits → Instr) (h : Head) (m : ModRmBits) :
      Makes (.undefined mk) (.undef h m) (mk h m)

/-- The instructions a row makes, each with its `reg` digit, 0 where the row is no group, and its parts (30_encoding
R355-R370). -/
inductive Row.Makes : Row → BitVec 3 → Fields → Instr → Prop where
  | eg (mk : Head → Reg → EOperand → Instr) (h : Head) (r : Reg) (e : EOperand) :
      Makes (.eg mk) 0#3 (.eg h r e .none) (mk h r e)
  | egIb (mk : Head → Reg → EOperand → BitVec 8 → Instr) (h : Head) (r : Reg) (e : EOperand) (v : BitVec 8) :
      Makes (.egIb mk) 0#3 (.eg h r e (.ib v)) (mk h r e v)
  | egIz (mk : Head → Reg → EOperand → BitVec 32 → Instr) (h : Head) (r : Reg) (e : EOperand) (v : BitVec 32) :
      Makes (.egIz mk) 0#3 (.eg h r e (.iz v)) (mk h r e v)
  | ib (mk : Head → BitVec 8 → Instr) (h : Head) (v : BitVec 8) : Makes (.ib mk) 0#3 (.plain h (.ib v)) (mk h v)
  | iz (mk : Head → BitVec 32 → Instr) (h : Head) (v : BitVec 32) : Makes (.iz mk) 0#3 (.plain h (.iz v)) (mk h v)
  | plain (mk : Head → Instr) (h : Head) : Makes (.plain mk) 0#3 (.plain h .none) (mk h)
  | group (rows : List GroupRow) (d : BitVec 3) (f : Fields) (i : Instr)
      (hrow : (rows.getD d.toNat .notInBlock).Makes f i) : Makes (.group rows) d f i

/-- Every instruction a row makes has the opcode bytes `bs`, the row's digit, and the parts the row gives it. -/
def Row.Describes (bs : List Byte) (row : Row) : Prop :=
  ∀ d f i, row.Makes d f i → i.opcode = ⟨bs, d⟩ ∧ i.fields = f

/-- The eight `reg` fields (30_encoding R311). -/
theorem digit_cases : ∀ d : BitVec 3,
    d = 0#3 ∨ d = 1#3 ∨ d = 2#3 ∨ d = 3#3 ∨ d = 4#3 ∨ d = 5#3 ∨ d = 6#3 ∨ d = 7#3 := by decide

/-- The groups make what their opcode and digit say (30_encoding R357, R359, R360, R362). -/
theorem mapGroups_describes : ∀ x ∈ mapGroups, x.2.Describes [BitVec.ofNat 8 x.1] := by
  simp only [mapGroups, List.forall_mem_cons]
  refine ⟨?_, ?_, ?_, ?_, ?_, ?_, ?_, ?_, ?_, ?_, ?_, ?_, ?_, ?_, List.forall_mem_nil _⟩
  all_goals
    intro d f i hm
    cases hm with
    | group _ _ _ _ hrow =>
      obtain rfl | rfl | rfl | rfl | rfl | rfl | rfl | rfl := digit_cases d <;> cases hrow <;> exact ⟨rfl, rfl⟩

/-- The one-byte rows that are no groups make what their opcode says (30_encoding R355-R369). -/
theorem mapSingle_describes :
    ∀ x ∈ mapBinary ++ mapIncDec ++ mapJccShort ++ mapOthers, x.2.Describes [BitVec.ofNat 8 x.1] := by
  simp only [mapBinary, mapIncDec, mapJccShort, mapOthers, List.cons_append, List.nil_append, List.forall_mem_cons]
  and_intros
  rotate_right
  · exact List.forall_mem_nil _
  all_goals
    rintro d f i ⟨⟩
    exact ⟨rfl, rfl⟩

/-- The two-byte rows make what their opcode says (30_encoding R370). -/
theorem map2_describes : ∀ x ∈ map2, x.2.Describes [0x0F#8, BitVec.ofNat 8 x.1] := by
  simp only [map2, mapJccNear, mapSetcc, List.cons_append, List.nil_append, List.forall_mem_cons]
  and_intros
  rotate_right
  · exact List.forall_mem_nil _
  all_goals
    rintro d f i ⟨⟩
    exact ⟨rfl, rfl⟩

/-- Where the row of an opcode stands (30_encoding R355-R370). -/
def RowAt (bs : List Byte) (row : Row) : Prop :=
  (∃ b, b ≠ 0x0F#8 ∧ bs = [b] ∧ rowOf map1 b = some row) ∨ ∃ b, bs = [0x0F#8, b] ∧ rowOf map2 b = some row

/-- Every instruction is made by the row of its opcode (30_encoding R355-R370): the register of `40+r` and `48+r` is
part of the opcode byte, the two-byte rows are IMUL, SETcc and the near jumps, and all others are one-byte rows. -/
theorem Instr.madeByRow (i : Instr) : ∃ row, RowAt i.opcode.bytes row ∧ row.Makes i.opcode.digit i.fields i := by
  cases i with
  | incZv h r | decZv h r => cases r <;> exact ⟨_, .inl ⟨_, by decide, rfl, rfl⟩, .plain _ _⟩
  | imulGvEv h r e | setoEb h r e | setnoEb h r e | setbEb h r e | setaeEb h r e | seteEb h r e | setneEb h r e
  | setbeEb h r e | setaEb h r e | setsEb h r e | setnsEb h r e | setpEb h r e | setnpEb h r e | setlEb h r e
  | setgeEb h r e | setleEb h r e | setgEb h r e =>
    exact ⟨_, .inr ⟨_, rfl, rfl⟩, .eg _ _ _ _⟩
  | joJz h v | jnoJz h v | jbJz h v | jaeJz h v | jeJz h v | jneJz h v | jbeJz h v | jaJz h v | jsJz h v
  | jnsJz h v | jpJz h v | jnpJz h v | jlJz h v | jgeJz h v | jleJz h v | jgJz h v =>
    exact ⟨_, .inr ⟨_, rfl, rfl⟩, .iz _ _ _⟩
  | _ =>
    refine ⟨_, .inl ⟨_, ?_, rfl, rfl⟩, ?_⟩
    · decide
    · repeat constructor

/-! ### What a row reads -/

/-- The parts `f` are read from `bs` up to `rest`, in stream order, ModRM with the `reg` digit `d`, and each is
well-formed (30_encoding R300, R350). -/
structure Fields.ReadFrom (f : Fields) (m : Mode) (opSize addrSize : Size) (d : BitVec 3) (bs rest : List Byte) :
    Prop where
  rm : f.rm.ok addrSize = true
  imm : f.imm.ok opSize = true
  policy : f.policyOk m = true
  bytes : bs = encodeRm d f.rm ++ encodeImm opSize f.imm ++ rest

/-- The operands of an aliased row under its policy (30_encoding R371). -/
def fetchAliased {α : Type} (policy : AliasPolicy) (modrm : Byte) (operands : Parse α) (bs : List Byte) :
    Parse (Aliased α) :=
  match policy with
  | .twin => operands.map .twin
  | .undefinedOpcode => .done (.undefinedOpcode { mod := modField modrm, rm := rmField modrm }) bs

/-- A `reg` digit and an operand make a ModRM byte with that digit, and what follows it (30_encoding R310). -/
theorem encodeEOperand_eq_cons (d : BitVec 3) (e : EOperand) :
    ∃ b t, encodeEOperand d e = b :: t ∧ regField b = d := by
  cases e <;> exact ⟨_, _, rfl, regField_modrmByte _ _ _⟩

@[simp] theorem Fields.aliasRow_head {α : Type} (h : Head) (x : Aliased α) (e : α → EOperand) (i : α → ImmField) :
    (Fields.aliasRow h x e i).head = h := by
  cases x <;> rfl

section
variable {m : Mode} {z a : Size} {modrm : Byte} {bs rest : List Byte} {h : Head} {row : GroupRow}

theorem fetchEOperand_iff {e : EOperand} :
    fetchEOperand false a modrm bs = .done e rest ↔
      (Fields.e h e .none).ReadFrom m z a (regField modrm) (modrm :: bs) rest := by
  rw [fetchEOperand_eq_done]
  constructor
  · rintro ⟨hok, hb⟩
    exact ⟨hok, rfl, rfl, by simpa [Fields.e, encodeRm, encodeImm] using hb⟩
  · rintro ⟨hok, -, -, hb⟩
    exact ⟨hok, by simpa [Fields.e, encodeRm, encodeImm] using hb⟩

theorem fetchEOperand_fetchIb_iff {x : EOperand × BitVec 8} :
    ((fetchEOperand false a modrm bs).bind fun e bs => (fetchIb bs).map fun v => (e, v)) = .done x rest ↔
      (Fields.e h x.1 (.ib x.2)).ReadFrom m z a (regField modrm) (modrm :: bs) rest := by
  simp only [Parse.bind_eq_done, Parse.map_eq_done, fetchEOperand_eq_done, fetchIb_eq_done]
  constructor
  · rintro ⟨e, _, ⟨hok, hb⟩, v, rfl, rfl⟩
    exact ⟨hok, rfl, rfl, by simpa [Fields.e, encodeRm, encodeImm] using hb⟩
  · rintro ⟨hok, -, -, hb⟩
    exact ⟨x.1, _, ⟨hok, by simpa [Fields.e, encodeRm, encodeImm] using hb⟩, x.2, rfl, rfl⟩

theorem fetchEOperand_fetchIz_iff {x : EOperand × BitVec 32} :
    ((fetchEOperand false a modrm bs).bind fun e bs => (fetchIz z bs).map fun v => (e, v)) = .done x rest ↔
      (Fields.e h x.1 (.iz x.2)).ReadFrom m z a (regField modrm) (modrm :: bs) rest := by
  simp only [Parse.bind_eq_done, Parse.map_eq_done, fetchEOperand_eq_done, fetchIz_eq_done]
  constructor
  · rintro ⟨e, _, ⟨hok, hb⟩, v, ⟨hv, rfl⟩, rfl⟩
    exact ⟨hok, hv, rfl, by simpa [Fields.e, encodeRm] using hb⟩
  · rintro ⟨hok, hv, -, hb⟩
    exact ⟨x.1, _, ⟨hok, by simpa [Fields.e, encodeRm] using hb⟩, x.2, ⟨hv, rfl⟩, rfl⟩

/-- The `mod` and `rm` fields of an undefined row are those of its ModRM byte (60_exceptions R1102). -/
theorem undef_readFrom_iff {b : ModRmBits} :
    (Fields.undef h b).ReadFrom m z a (regField modrm) (modrm :: bs) rest ↔
      b = { mod := modField modrm, rm := rmField modrm } ∧ bs = rest := by
  constructor
  · rintro ⟨-, -, -, hb⟩
    have hb : modrm = modrmByte b.mod (regField modrm) b.rm ∧ bs = rest := by
      simpa [Fields.undef, encodeRm, encodeImm] using hb
    refine ⟨?_, hb.2⟩
    rw [hb.1, modField_modrmByte, rmField_modrmByte]
  · rintro ⟨rfl, rfl⟩
    exact ⟨rfl, rfl, rfl, by simp [Fields.undef, encodeRm, encodeImm, modrmByte_fields]⟩

/-- The policy an aliased row is read under, apart from its other parts (30_encoding R371). -/
theorem readFrom_policy_iff {f : Fields} {p : AliasPolicy} {d : BitVec 3} (hf : f.policy = none) :
    ({ f with policy := some p } : Fields).ReadFrom m z a d bs rest ↔
      p = m.aliasPolicy ∧ f.ReadFrom m z a d bs rest := by
  constructor
  · rintro ⟨hok, hi, hp, hb⟩
    exact ⟨by simpa [Fields.policyOk] using hp, hok, hi, by simp [Fields.policyOk, hf], hb⟩
  · rintro ⟨rfl, hok, hi, -, hb⟩
    exact ⟨hok, hi, by simp [Fields.policyOk], hb⟩

section
variable (p : AliasPolicy) (z a : Size) (modrm : Byte) (bs : List Byte)

theorem fetchGroupRow_aliasE (mk : Head → Aliased EOperand → Instr) :
    fetchGroupRow p z a modrm (.aliasE mk) bs =
      (fetchAliased p modrm (fetchEOperand false a modrm bs) bs).map fun x h => mk h x := by
  cases p with
  | twin => exact (Parse.map_map _ Aliased.twin fun x h => mk h x).symm
  | undefinedOpcode => rfl

theorem fetchGroupRow_aliasEIb (mk : Head → Aliased (EOperand × BitVec 8) → Instr) :
    fetchGroupRow p z a modrm (.aliasEIb mk) bs =
      (fetchAliased p modrm
        ((fetchEOperand false a modrm bs).bind fun e bs => (fetchIb bs).map fun v => (e, v)) bs).map
          fun x h => mk h x := by
  cases p with
  | twin => exact (Parse.map_map _ Aliased.twin fun x h => mk h x).symm
  | undefinedOpcode => rfl

theorem fetchGroupRow_aliasEIz (mk : Head → Aliased (EOperand × BitVec 32) → Instr) :
    fetchGroupRow p z a modrm (.aliasEIz mk) bs =
      (fetchAliased p modrm
        ((fetchEOperand false a modrm bs).bind fun e bs => (fetchIz z bs).map fun v => (e, v)) bs).map
          fun x h => mk h x := by
  cases p with
  | twin => exact (Parse.map_map _ Aliased.twin fun x h => mk h x).symm
  | undefinedOpcode => rfl

end

/-- An aliased row reads its twin's operands or its ModRM byte alone, as its policy says (30_encoding R371). -/
theorem fetchAliased_iff {α : Type} {operands : Parse α} {x : Aliased α} {e : α → EOperand} {i : α → ImmField}
    (hops : ∀ y, operands = .done y rest ↔
      (Fields.e h (e y) (i y)).ReadFrom m z a (regField modrm) (modrm :: bs) rest) :
    fetchAliased m.aliasPolicy modrm operands bs = .done x rest ↔
      (Fields.aliasRow h x e i).ReadFrom m z a (regField modrm) (modrm :: bs) rest := by
  cases x with
  | twin y =>
    rw [Fields.aliasRow, readFrom_policy_iff rfl, ← hops]
    cases hp : m.aliasPolicy <;> simp [fetchAliased, Parse.map_eq_done]
  | undefinedOpcode b =>
    rw [Fields.aliasRow, readFrom_policy_iff rfl, undef_readFrom_iff]
    cases hp : m.aliasPolicy with
    | twin => simp [fetchAliased, Parse.map_eq_done]
    | undefinedOpcode => simp [fetchAliased, eq_comm]

/-- What a group row reads is what its instruction is encoded as (30_encoding R311, R350, R371, R372). -/
theorem GroupRow.readFrom_of_fetch {mk : Head → Instr}
    (hf : fetchGroupRow m.aliasPolicy z a modrm row bs = .done mk rest) (h : Head) :
    ∃ f, f.head = h ∧ row.Makes f (mk h) ∧ f.ReadFrom m z a (regField modrm) (modrm :: bs) rest := by
  cases row with
  | e mk =>
    obtain ⟨x, hx, rfl⟩ := Parse.map_eq_done.mp hf
    exact ⟨_, rfl, .e mk h x, fetchEOperand_iff.mp hx⟩
  | eIb mk =>
    obtain ⟨x, hx, rfl⟩ := Parse.map_eq_done.mp hf
    exact ⟨_, rfl, .eIb mk h x.1 x.2, fetchEOperand_fetchIb_iff.mp hx⟩
  | eIz mk =>
    obtain ⟨x, hx, rfl⟩ := Parse.map_eq_done.mp hf
    exact ⟨_, rfl, .eIz mk h x.1 x.2, fetchEOperand_fetchIz_iff.mp hx⟩
  | aliasE mk =>
    rw [fetchGroupRow_aliasE] at hf
    obtain ⟨x, hx, rfl⟩ := Parse.map_eq_done.mp hf
    exact ⟨_, by simp, .aliasE mk h x, (fetchAliased_iff fun _ => fetchEOperand_iff).mp hx⟩
  | aliasEIb mk =>
    rw [fetchGroupRow_aliasEIb] at hf
    obtain ⟨x, hx, rfl⟩ := Parse.map_eq_done.mp hf
    exact ⟨_, by simp, .aliasEIb mk h x, (fetchAliased_iff fun _ => fetchEOperand_fetchIb_iff).mp hx⟩
  | aliasEIz mk =>
    rw [fetchGroupRow_aliasEIz] at hf
    obtain ⟨x, hx, rfl⟩ := Parse.map_eq_done.mp hf
    exact ⟨_, by simp, .aliasEIz mk h x, (fetchAliased_iff fun _ => fetchEOperand_fetchIz_iff).mp hx⟩
  | undefined mk =>
    cases hf
    exact ⟨_, rfl, .undefined mk h _, undef_readFrom_iff.mpr ⟨rfl, rfl⟩⟩
  | notInBlock => cases hf

/-- A group row reads its instruction from its encoding (30_encoding R311, R350, R371, R372). -/
theorem GroupRow.Makes.fetch {f : Fields} {i : Instr} (hm : row.Makes f i)
    (hr : f.ReadFrom m z a (regField modrm) (modrm :: bs) rest) :
    ∃ mk, fetchGroupRow m.aliasPolicy z a modrm row bs = .done mk rest ∧ mk f.head = i := by
  cases hm with
  | e mk h e => exact ⟨_, Parse.map_eq_done.mpr ⟨e, fetchEOperand_iff.mpr hr, rfl⟩, rfl⟩
  | eIb mk h e v => exact ⟨_, Parse.map_eq_done.mpr ⟨(e, v), fetchEOperand_fetchIb_iff.mpr hr, rfl⟩, rfl⟩
  | eIz mk h e v => exact ⟨_, Parse.map_eq_done.mpr ⟨(e, v), fetchEOperand_fetchIz_iff.mpr hr, rfl⟩, rfl⟩
  | aliasE mk h x =>
    rw [fetchGroupRow_aliasE, Fields.aliasRow_head]
    exact ⟨_, Parse.map_eq_done.mpr ⟨x, (fetchAliased_iff fun _ => fetchEOperand_iff).mpr hr, rfl⟩, rfl⟩
  | aliasEIb mk h x =>
    rw [fetchGroupRow_aliasEIb, Fields.aliasRow_head]
    exact ⟨_, Parse.map_eq_done.mpr ⟨x, (fetchAliased_iff fun _ => fetchEOperand_fetchIb_iff).mpr hr, rfl⟩, rfl⟩
  | aliasEIz mk h x =>
    rw [fetchGroupRow_aliasEIz, Fields.aliasRow_head]
    exact ⟨_, Parse.map_eq_done.mpr ⟨x, (fetchAliased_iff fun _ => fetchEOperand_fetchIz_iff).mpr hr, rfl⟩, rfl⟩
  | undefined mk h b =>
    obtain ⟨rfl, rfl⟩ := undef_readFrom_iff.mp hr
    exact ⟨_, rfl, rfl⟩

/-- The ModRM byte of a group row carries its digit (30_encoding R311). -/
theorem GroupRow.Makes.modrm_eq {f : Fields} {i : Instr} (hm : row.Makes f i) {d : BitVec 3}
    (hr : f.ReadFrom m z a d bs rest) : ∃ modrm t, bs = modrm :: t ∧ regField modrm = d := by
  have hcons : ∃ b t, encodeRm d f.rm = b :: t ∧ regField b = d := by
    cases hm with
    | e | eIb | eIz => exact encodeEOperand_eq_cons d _
    | aliasE _ _ x | aliasEIb _ _ x | aliasEIz _ _ x =>
      cases x with
      | twin y => exact encodeEOperand_eq_cons d _
      | undefinedOpcode b => exact ⟨_, _, rfl, regField_modrmByte _ _ _⟩
    | undefined => exact ⟨_, _, rfl, regField_modrmByte _ _ _⟩
  obtain ⟨b, t, hb, hd⟩ := hcons
  exact ⟨b, _, by rw [hr.bytes, hb]; rfl, hd⟩

/-- A row with a `reg` register reads what a group row with that digit reads (30_encoding R311). -/
theorem eg_readFrom_iff {r : Reg} {e : EOperand} {i : ImmField} {d : BitVec 3} :
    (Fields.eg h r e i).ReadFrom m z a d bs rest ↔
      ∃ modrm t, bs = modrm :: t ∧ Reg.ofBits (regField modrm) = r ∧
        (Fields.e h e i).ReadFrom m z a (regField modrm) (modrm :: t) rest := by
  constructor
  · rintro ⟨hok, hi, hp, hb⟩
    obtain ⟨b, t, he, hreg⟩ := encodeEOperand_eq_cons r.toBits e
    have hbs : bs = b :: (t ++ encodeImm z i ++ rest) := by simpa [Fields.eg, encodeRm, he] using hb
    exact ⟨b, _, hbs, Reg.ofBits_eq.mpr hreg, hok, hi, hp, by simp [Fields.e, encodeRm, hreg, he]⟩
  · rintro ⟨b, t, rfl, rfl, hok, hi, hp, hb⟩
    exact ⟨hok, hi, hp, by simpa [Fields.eg, Fields.e, encodeRm, Reg.toBits_ofBits] using hb⟩

/-- A row without a ModRM byte reads its immediate alone. -/
theorem plain_readFrom_iff {i : ImmField} {d : BitVec 3} :
    (Fields.plain h i).ReadFrom m z a d bs rest ↔ i.ok z = true ∧ bs = encodeImm z i ++ rest :=
  ⟨fun hr => ⟨hr.imm, hr.bytes⟩, fun hr => ⟨rfl, hr.1, rfl, hr.2⟩⟩

/-- What a row reads is what its instruction is encoded as (30_encoding R300, R350). -/
theorem Row.readFrom_of_fetch {row : Row} {mk : Head → Instr}
    (hf : fetchRow m.aliasPolicy z a row bs = .done mk rest) (h : Head) :
    ∃ d f, f.head = h ∧ row.Makes d f (mk h) ∧ f.ReadFrom m z a d bs rest := by
  cases row with
  | eg mk =>
    obtain ⟨modrm, t, hb, hf⟩ := Parse.bind_eq_done.mp hf
    obtain ⟨e, he, rfl⟩ := Parse.map_eq_done.mp hf
    exact ⟨_, _, rfl, .eg mk h _ e, eg_readFrom_iff.mpr ⟨modrm, t, fetch8_eq_done.mp hb, rfl, fetchEOperand_iff.mp he⟩⟩
  | egIb mk =>
    obtain ⟨modrm, t, hb, hf⟩ := Parse.bind_eq_done.mp hf
    obtain ⟨x, hx, rfl⟩ := Parse.map_eq_done.mp ((Parse.bind_map_pair _ _ _).symm.trans hf)
    exact ⟨_, _, rfl, .egIb mk h _ x.1 x.2,
      eg_readFrom_iff.mpr ⟨modrm, t, fetch8_eq_done.mp hb, rfl, fetchEOperand_fetchIb_iff.mp hx⟩⟩
  | egIz mk =>
    obtain ⟨modrm, t, hb, hf⟩ := Parse.bind_eq_done.mp hf
    obtain ⟨x, hx, rfl⟩ := Parse.map_eq_done.mp ((Parse.bind_map_pair _ _ _).symm.trans hf)
    exact ⟨_, _, rfl, .egIz mk h _ x.1 x.2,
      eg_readFrom_iff.mpr ⟨modrm, t, fetch8_eq_done.mp hb, rfl, fetchEOperand_fetchIz_iff.mp hx⟩⟩
  | ib mk =>
    obtain ⟨v, hv, rfl⟩ := Parse.map_eq_done.mp hf
    exact ⟨_, _, rfl, .ib mk h v, plain_readFrom_iff.mpr ⟨rfl, fetchIb_eq_done.mp hv⟩⟩
  | iz mk =>
    obtain ⟨v, hv, rfl⟩ := Parse.map_eq_done.mp hf
    exact ⟨_, _, rfl, .iz mk h v, plain_readFrom_iff.mpr (fetchIz_eq_done.mp hv)⟩
  | plain mk =>
    cases hf
    exact ⟨_, _, rfl, .plain mk h, plain_readFrom_iff.mpr ⟨rfl, rfl⟩⟩
  | group rows =>
    obtain ⟨modrm, t, hb, hf⟩ := Parse.bind_eq_done.mp hf
    obtain ⟨f, hh, hm, hr⟩ := GroupRow.readFrom_of_fetch hf h
    exact ⟨_, f, hh, .group rows _ f _ hm, by rwa [fetch8_eq_done.mp hb]⟩

/-- A row reads its instruction from its encoding (30_encoding R300, R350). -/
theorem Row.Makes.fetch {row : Row} {d : BitVec 3} {f : Fields} {i : Instr} (hm : row.Makes d f i)
    (hr : f.ReadFrom m z a d bs rest) :
    ∃ mk, fetchRow m.aliasPolicy z a row bs = .done mk rest ∧ mk f.head = i := by
  cases hm with
  | eg mk h r e =>
    obtain ⟨modrm, t, rfl, rfl, hre⟩ := eg_readFrom_iff.mp hr
    exact ⟨_, Parse.map_eq_done.mpr ⟨e, fetchEOperand_iff.mpr hre, rfl⟩, rfl⟩
  | egIb mk h r e v =>
    obtain ⟨modrm, t, rfl, rfl, hre⟩ := eg_readFrom_iff.mp hr
    have hx := (fetchEOperand_fetchIb_iff (x := (e, v))).mpr hre
    exact ⟨_, (Parse.bind_map_pair _ _ fun e v h => mk h (Reg.ofBits (regField modrm)) e v).trans
      (Parse.map_eq_done.mpr ⟨(e, v), hx, rfl⟩), rfl⟩
  | egIz mk h r e v =>
    obtain ⟨modrm, t, rfl, rfl, hre⟩ := eg_readFrom_iff.mp hr
    have hx := (fetchEOperand_fetchIz_iff (x := (e, v))).mpr hre
    exact ⟨_, (Parse.bind_map_pair _ _ fun e v h => mk h (Reg.ofBits (regField modrm)) e v).trans
      (Parse.map_eq_done.mpr ⟨(e, v), hx, rfl⟩), rfl⟩
  | ib mk h v =>
    obtain ⟨-, rfl⟩ := plain_readFrom_iff.mp hr
    exact ⟨_, Parse.map_eq_done.mpr ⟨v, fetchIb_eq_done.mpr rfl, rfl⟩, rfl⟩
  | iz mk h v =>
    exact ⟨_, Parse.map_eq_done.mpr ⟨v, fetchIz_eq_done.mpr (plain_readFrom_iff.mp hr), rfl⟩, rfl⟩
  | plain mk h =>
    obtain ⟨-, rfl⟩ := plain_readFrom_iff.mp hr
    exact ⟨_, rfl, rfl⟩
  | group rows d f i hm =>
    obtain ⟨modrm, t, rfl, rfl⟩ := hm.modrm_eq hr
    exact hm.fetch hr

end
end Sys2Proof
end

section
/-!
SUPPORT. A decode as one reading of the window, prefixes, opcode and operands in turn, and the statements that a decode
undoes an encode and an encode a decode.
-/
namespace Sys2Proof

/-! ### Opcode bytes -/

/-- An entry of a map that a byte selects. -/
theorem mem_of_rowOf {map : List (Nat × Row)} {b : Byte} {row : Row} (h : rowOf map b = some row) :
    (b.toNat, row) ∈ map := by
  obtain ⟨l, k, hl, -⟩ := List.lookup_eq_some_iff.mp h
  simp [hl]

/-- The one-byte rows make what their opcode says (30_encoding R355-R369). -/
theorem map1_describes : ∀ x ∈ map1, x.2.Describes [BitVec.ofNat 8 x.1] := by
  intro x hx
  by_cases hg : x ∈ mapGroups
  · exact mapGroups_describes x hg
  · exact mapSingle_describes x (by simpa [map1, hg] using hx)

theorem RowAt.describes {ops : List Byte} {row : Row} (h : RowAt ops row) : row.Describes ops := by
  obtain ⟨b, -, rfl, hrow⟩ | ⟨b, rfl, hrow⟩ := h
  · simpa using map1_describes _ (mem_of_rowOf hrow)
  · simpa using map2_describes _ (mem_of_rowOf hrow)

/-- The first opcode byte stands after the prefixes (30_encoding R305, R308). -/
theorem prefixByte_of_rowOf : ∀ b : Byte, (rowOf map1 b).isSome = true → prefixByte b = .opcode := by decide +kernel

theorem RowAt.leads {ops : List Byte} {row : Row} (h : RowAt ops row) :
    ∃ b more, ops = b :: more ∧ prefixByte b = .opcode := by
  obtain ⟨b, -, rfl, hrow⟩ | ⟨b, rfl, -⟩ := h
  · exact ⟨b, [], rfl, prefixByte_of_rowOf b (by simp [hrow])⟩
  · exact ⟨0x0F#8, [b], rfl, rfl⟩

/-- After the opcode bytes of a row the body is what the row reads (30_encoding R308, R350). -/
theorem RowAt.fetchBody {ops : List Byte} {row : Row} (h : RowAt ops row) (p : AliasPolicy) (z a : Size)
    (bs : List Byte) : fetchBody p z a (ops ++ bs) = fetchRow p z a row bs := by
  obtain ⟨b, hb, rfl, hrow⟩ | ⟨b, rfl, hrow⟩ := h
  · simp [Sys2Proof.fetchBody, hb, hrow, fetchRow?]
  · simp [Sys2Proof.fetchBody, hrow, fetchRow?]

/-- A body that is read begins with the opcode bytes of a row. -/
theorem rowAt_of_fetchBody {p : AliasPolicy} {z a : Size} {bs rest : List Byte} {mk : Head → Instr}
    (h : fetchBody p z a bs = .done mk rest) : ∃ ops row body, RowAt ops row ∧ bs = ops ++ body := by
  obtain ⟨b, bs, hb, h⟩ := Parse.bind_eq_done.mp h
  rw [fetch8_eq_done] at hb
  split at h
  case isTrue h0 =>
    obtain ⟨b', bs, hb', h⟩ := Parse.bind_eq_done.mp h
    rw [fetch8_eq_done] at hb'
    cases hrow : rowOf map2 b' with
    | none => rw [hrow] at h; cases h
    | some row => exact ⟨_, row, bs, .inr ⟨b', rfl, hrow⟩, by rw [hb, hb', h0]; rfl⟩
  case isFalse h0 =>
    cases hrow : rowOf map1 b with
    | none => rw [hrow] at h; cases h
    | some row => exact ⟨_, row, bs, .inl ⟨b, h0, rfl, hrow⟩, hb⟩

section
variable {m : Mode} {z a : Size} {bs rest : List Byte} {i : Instr}

/-- The body an instruction is read from is its opcode with its parts (30_encoding R300). -/
theorem readFrom_of_fetchBody {mk : Head → Instr} (hf : fetchBody m.aliasPolicy z a bs = .done mk rest) (h : Head) :
    (mk h).head = h ∧ ∃ body, bs = (mk h).opcode.bytes ++ body ∧
      (mk h).fields.ReadFrom m z a (mk h).opcode.digit body rest := by
  obtain ⟨ops, row, body, hrow, rfl⟩ := rowAt_of_fetchBody hf
  rw [hrow.fetchBody] at hf
  obtain ⟨d, f, hh, hm, hr⟩ := Row.readFrom_of_fetch hf h
  obtain ⟨hop, rfl⟩ := hrow.describes d f _ hm
  rw [hop]
  exact ⟨hh, body, rfl, hr⟩

/-- An instruction is read from its opcode with its parts (30_encoding R300). -/
theorem fetchBody_of_readFrom (hr : i.fields.ReadFrom m z a i.opcode.digit bs rest) :
    ∃ mk, fetchBody m.aliasPolicy z a (i.opcode.bytes ++ bs) = .done mk rest ∧ mk i.head = i := by
  obtain ⟨row, hrow, hm⟩ := i.madeByRow
  rw [hrow.fetchBody]
  exact hm.fetch hr

end

/-! ### The whole reading -/

/-- Prefixes, opcode and operands in turn (30_encoding R300, R350). -/
def fetchInstr (m : Mode) (bs : List Byte) : Parse (List Prefix × (Head → Instr)) :=
  (scanPrefixes none bs).bind fun ps bs => (fetchBody m.aliasPolicy (m.opSize ps) (m.addrSize ps) bs).map (Prod.mk ps)

/-- The head of an instruction with the prefixes `ps` and `n` bytes (30_encoding R306, R350). -/
def Mode.head (m : Mode) (ps : List Prefix) (n : Nat) : Head :=
  { prefixes := ps, opSize := m.opSize ps, addrSize := m.addrSize ps, len := n }

/-- What a decode of the window `w` makes of its whole reading (30_encoding R350). -/
def Decoded.ofReading (m : Mode) (w : List Byte) : Parse (List Prefix × (Head → Instr)) → Decoded
  | .done x rest => ⟨.instr (x.2 (m.head x.1 (w.length - rest.length))), w.length - rest.length⟩
  | .stop x rest => ⟨x.outcome, w.length - rest.length⟩

theorem decodeWindow_eq (m : Mode) (w : List Byte) : decodeWindow m w = .ofReading m w (fetchInstr m w) := by
  unfold decodeWindow fetchInstr
  cases scanPrefixes none w with
  | stop x rest => rfl
  | done ps bs =>
    simp only [Parse.bind_done]
    cases fetchBody m.aliasPolicy (m.opSize ps) (m.addrSize ps) bs <;> rfl

theorem decodeWindow_of_done {m : Mode} {w read rest : List Byte} {ps : List Prefix} {mk : Head → Instr}
    (hw : w = read ++ rest) (h : fetchInstr m w = .done (ps, mk) rest) :
    decodeWindow m w = ⟨.instr (mk (m.head ps read.length)), read.length⟩ := by
  rw [decodeWindow_eq, h]
  simp [Decoded.ofReading, hw]

theorem decodeWindow_of_stop {m : Mode} {w read rest : List Byte} {x : DecodeStop} (hw : w = read ++ rest)
    (h : fetchInstr m w = .stop x rest) : decodeWindow m w = ⟨x.outcome, read.length⟩ := by
  rw [decodeWindow_eq, h]
  simp [Decoded.ofReading, hw]

/-- The bytes of an instruction after its opcode (30_encoding R300). -/
def Instr.operandBytes (i : Instr) : List Byte :=
  encodeRm i.opcode.digit i.fields.rm ++ encodeImm i.head.opSize i.fields.imm

theorem encode_eq (i : Instr) :
    encode i = i.head.prefixes.map Prefix.toByte ++ (i.opcode.bytes ++ i.operandBytes) := by
  simp [encode, Instr.operandBytes]

/-- The checks on the shape of an instruction: its head, its prefixes, and its parts. -/
theorem Instr.shapeOk_iff {m : Mode} {i : Instr} (rest : List Byte) :
    i.shapeOk m = true ↔
      i.head = m.head i.head.prefixes (encode i).length ∧ segmentsAgree none i.head.prefixes = true ∧
        i.fields.ReadFrom m i.head.opSize i.head.addrSize i.opcode.digit (i.operandBytes ++ rest) rest := by
  have hhead : i.head = m.head i.head.prefixes (encode i).length ↔
      i.head.sizesOk m = true ∧ i.head.len = (encode i).length := by
    simp only [Head.sizesOk, Bool.and_eq_true, beq_iff_eq, Mode.head]
    constructor
    · intro h
      exact ⟨⟨congrArg Head.opSize h, congrArg Head.addrSize h⟩, congrArg Head.len h⟩
    · rintro ⟨⟨ho, ha⟩, hl⟩
      rw [← ho, ← ha, ← hl]
  simp only [Instr.shapeOk, Bool.and_eq_true, beq_iff_eq, hhead]
  constructor
  · rintro ⟨⟨⟨⟨⟨hs, hp⟩, hrm⟩, hi⟩, hpol⟩, hl⟩
    exact ⟨⟨hs, hl⟩, hp, hrm, hi, hpol, rfl⟩
  · rintro ⟨⟨hs, hl⟩, hp, hr⟩
    exact ⟨⟨⟨⟨⟨hs, hp⟩, hr.rm⟩, hr.imm⟩, hr.policy⟩, hl⟩

/-- An instruction of well-formed shape, of any length, is read from its encoding (30_encoding R300). -/
theorem fetchInstr_encode {m : Mode} {i : Instr} (h : i.shapeOk m = true) (rest : List Byte) :
    ∃ mk, fetchInstr m (encode i ++ rest) = .done (i.head.prefixes, mk) rest ∧
      mk (m.head i.head.prefixes (encode i).length) = i := by
  obtain ⟨hh, hp, hr⟩ := (Instr.shapeOk_iff rest).mp h
  obtain ⟨mk, hmk, hi⟩ := fetchBody_of_readFrom hr
  obtain ⟨row, hrow, -⟩ := i.madeByRow
  obtain ⟨b, more, hb, hop⟩ := hrow.leads
  have hsizes : i.head.opSize = m.opSize i.head.prefixes ∧ i.head.addrSize = m.addrSize i.head.prefixes :=
    ⟨congrArg Head.opSize hh, congrArg Head.addrSize hh⟩
  refine ⟨mk, ?_, by rw [← hh, hi]⟩
  have hps : scanPrefixes none (encode i ++ rest) =
      .done i.head.prefixes (i.opcode.bytes ++ (i.operandBytes ++ rest)) :=
    scanPrefixes_eq_done.mpr ⟨hp, by simp [encode_eq], b, _, by rw [hb]; rfl, hop⟩
  rw [fetchInstr, hps, Parse.bind_done, ← hsizes.1, ← hsizes.2, hmk, Parse.map_done]

/-- A reading ends with an instruction of well-formed shape, after the bytes of its encoding (30_encoding R300). -/
theorem encode_of_fetchInstr {m : Mode} {w rest : List Byte} {ps : List Prefix} {mk : Head → Instr}
    (h : fetchInstr m w = .done (ps, mk) rest) :
    ∃ i, i.shapeOk m = true ∧ w = encode i ++ rest ∧ decodeWindow m w = ⟨.instr i, (encode i).length⟩ := by
  obtain ⟨ps, bs, hps, hf⟩ := Parse.bind_eq_done.mp h
  obtain ⟨mk, hmk, he⟩ := Parse.map_eq_done.mp hf
  cases he
  obtain ⟨hp, hwps, -⟩ := scanPrefixes_eq_done.mp hps
  obtain ⟨hh, body, hbs, hr⟩ := readFrom_of_fetchBody hmk (m.head ps (w.length - rest.length))
  generalize hi : mk (m.head ps (w.length - rest.length)) = i at hh hbs hr
  have hbody : body = i.operandBytes ++ rest := by rw [hr.bytes, Instr.operandBytes, hh]; rfl
  have hw : w = encode i ++ rest := by rw [encode_eq, hh, hwps, hbs, hbody]; simp [Mode.head]
  have hn : w.length - rest.length = (encode i).length := by simp [hw]
  rw [hn] at hi hh
  refine ⟨i, (Instr.shapeOk_iff rest).mpr ⟨by rw [hh]; rfl, by rw [hh]; exact hp, ?_⟩, hw, ?_⟩
  · rw [hh, ← hbody]
    exact hr
  · rw [decodeWindow_of_done hw h, hi]

theorem Instr.wellFormed_iff {m : Mode} {i : Instr} :
    i.wellFormed m = true ↔ i.shapeOk m = true ∧ (encode i).length ≤ maxLength := by
  simp [Instr.wellFormed]

/-- Settles O2: the encoding lies in the window, and is read there as the instruction. -/
theorem decodeOfEncode : Obligations.DecodeOfEncode := by
  intro m i rest hw
  obtain ⟨hs, hlen⟩ := Instr.wellFormed_iff.mp hw
  have hwin : (encode i ++ rest).take maxLength = encode i ++ rest.take (maxLength - (encode i).length) := by
    rw [List.take_append, List.take_of_length_le hlen]
  obtain ⟨mk, hf, hi⟩ := fetchInstr_encode hs (rest.take (maxLength - (encode i).length))
  rw [decode, hwin, decodeWindow_of_done rfl hf, hi]

/-- A decode that ends in an instruction has read its encoding, which is well-formed (30_encoding R350). -/
theorem decode_instr {m : Mode} {bytes : List Byte} {i : Instr} (h : (decode m bytes).outcome = .instr i) :
    i.wellFormed m = true ∧ (∃ rest, bytes = encode i ++ rest) ∧ decode m bytes = ⟨.instr i, (encode i).length⟩ := by
  cases hf : fetchInstr m (bytes.take maxLength) with
  | stop x rest =>
    rw [decode, decodeWindow_eq, hf] at h
    cases x <;> cases h
  | done x rest =>
    obtain ⟨j, hs, hw, hd⟩ := encode_of_fetchInstr hf
    have hdec : decode m bytes = ⟨.instr j, (encode j).length⟩ := hd
    rw [hdec] at h
    cases h
    have hlen : (encode i).length ≤ maxLength := by
      have hle := congrArg List.length hw
      simp only [List.length_take, List.length_append] at hle
      omega
    refine ⟨Instr.wellFormed_iff.mpr ⟨hs, hlen⟩, ⟨rest ++ bytes.drop maxLength, ?_⟩, hdec⟩
    rw [← List.append_assoc, ← hw, List.take_append_drop]

/-- Settles O3: what was read is the encoding, and the head has its length. -/
theorem encodeOfDecode : Obligations.EncodeOfDecode := by
  intro m bytes i h
  obtain ⟨hw, ⟨rest, hb⟩, hd⟩ := decode_instr h
  obtain ⟨hs, -⟩ := Instr.wellFormed_iff.mp hw
  obtain ⟨hh, -⟩ := (Instr.shapeOk_iff []).mp hs
  refine ⟨hw, ?_, ?_⟩
  · rw [hd, hb]; simp
  · rw [hd, hh]; rfl

/-- The byte of a size override is among the bytes read where the override is among the prefixes (30_encoding R306). -/
theorem toByte_mem {p : Prefix} {ps : List Prefix} : p.toByte ∈ ps.map Prefix.toByte ↔ p ∈ ps := by
  have hinj : Function.Injective Prefix.toByte := fun p q h => by simpa using congrArg prefixByte h
  exact List.mem_map_of_injective hinj

/-- Settles O4: the prefixes are the first bytes of the encoding, and the head has the sizes they select. -/
theorem sizesOfPrefixes : Obligations.SizesOfPrefixes := by
  intro m bytes i h
  obtain ⟨hw, ⟨rest, hb⟩, -⟩ := decode_instr h
  obtain ⟨hs, -⟩ := Instr.wellFormed_iff.mp hw
  obtain ⟨hh, -⟩ := (Instr.shapeOk_iff []).mp hs
  have htake : bytes.take i.head.prefixes.length = i.head.prefixes.map Prefix.toByte := by
    rw [hb, encode_eq, List.append_assoc, List.take_left' (by simp)]
  have hop : 0x66#8 ∈ i.head.prefixes.map Prefix.toByte ↔ Prefix.operandSize ∈ i.head.prefixes :=
    toByte_mem (p := .operandSize)
  have haddr : 0x67#8 ∈ i.head.prefixes.map Prefix.toByte ↔ Prefix.addressSize ∈ i.head.prefixes :=
    toByte_mem (p := .addressSize)
  refine ⟨htake, ?_, ?_⟩
  · rw [htake, congrArg Head.opSize hh]
    simp only [hop, Mode.head, Mode.opSize, List.contains_iff_mem]
    rfl
  · rw [htake, congrArg Head.addrSize hh]
    simp only [haddr, Mode.head, Mode.addrSize, List.contains_iff_mem]
    rfl

end Sys2Proof
end

section
/-!
SUPPORT. A decode depends on the bytes it reads alone: each parser of the decoder decides by the bytes it takes, or runs
out of them. From it the bound of 15 bytes, and the refusals that come before an instruction is complete.
-/
namespace Sys2Proof

/-! ### Parsers that decide by the bytes they read -/

/-- The outcome of the parser `f` on a list of bytes: it runs out of bytes, or it ends after some of them, whatever
bytes follow those (30_encoding R302, R303). -/
inductive Parse.Decides {α : Type} (f : List Byte → Parse α) : List Byte → Prop where
  | short (bs : List Byte) (h : f bs = .stop (.refuse .tooLong) []) : Decides f bs
  | done (read rest : List Byte) (a : α) (h : ∀ more, f (read ++ more) = .done a more) : Decides f (read ++ rest)
  | stop (read rest : List Byte) (x : DecodeStop) (hx : x ≠ .refuse .tooLong)
      (h : ∀ more, f (read ++ more) = .stop x more) : Decides f (read ++ rest)

/-- A parser that decides by the bytes it reads, on every list of bytes (30_encoding R350). -/
def Parse.ReadsOnly {α : Type} (f : List Byte → Parse α) : Prop := ∀ bs, Parse.Decides f bs

namespace Parse.Decides
variable {α : Type} {f g : List Byte → Parse α} {b : Byte} {bs : List Byte}

/-- What a parser decides after one more byte. -/
theorem cons (hfg : ∀ bs, f (b :: bs) = g bs) (h : Decides g bs) : Decides f (b :: bs) := by
  cases h with
  | short _ h => exact .short _ (by rw [hfg, h])
  | done read rest a h => exact .done (b :: read) rest a fun more => by rw [List.cons_append, hfg, h]
  | stop read rest x hx h => exact .stop (b :: read) rest x hx fun more => by rw [List.cons_append, hfg, h]

/-- A parser that needs a byte decides no sooner than the first: one that agrees with it after that byte decides
alike. -/
theorem congr_cons (hfg : ∀ bs, f (b :: bs) = g (b :: bs)) (hnil : g [] = .stop (.refuse .tooLong) [])
    (h : Decides g (b :: bs)) : Decides f (b :: bs) := by
  generalize hw : b :: bs = w at h
  cases h with
  | short _ h => exact .short _ (by rw [← hw, hfg, hw, h])
  | done read rest a h =>
    cases read with
    | nil => cases hnil.symm.trans (h [])
    | cons b' read =>
      cases hw
      exact .done (b :: read) rest a fun more => (hfg _).trans (h more)
  | stop read rest x hx h =>
    cases read with
    | nil =>
      cases hnil.symm.trans (h [])
      exact absurd rfl hx
    | cons b' read =>
      cases hw
      exact .stop (b :: read) rest x hx fun more => (hfg _).trans (h more)

end Parse.Decides

namespace Parse.ReadsOnly
variable {α β : Type}

theorem fetch8 : ReadsOnly Sys2Proof.fetch8
  | [] => .short [] rfl
  | b :: bs => .done [b] bs b fun _ => rfl

theorem done (a : α) : ReadsOnly (Parse.done a) := fun bs => .done [] bs a fun _ => rfl

theorem stop {x : DecodeStop} (hx : x ≠ .refuse .tooLong) : ReadsOnly (Parse.stop (α := α) x) :=
  fun bs => .stop [] bs x hx fun _ => rfl

theorem bind {f : List Byte → Parse α} {k : α → List Byte → Parse β} (hf : ReadsOnly f) (hk : ∀ a, ReadsOnly (k a)) :
    ReadsOnly fun bs => (f bs).bind k := by
  intro bs
  cases hf bs with
  | short _ h => exact .short _ (by simp [h])
  | stop read rest x hx h => exact .stop read rest x hx (by simp [h])
  | done read rest a h =>
    cases hk a rest with
    | short _ h' => exact .short _ (by simp [h, h'])
    | stop read' rest x hx h' =>
      rw [← List.append_assoc]
      exact .stop _ rest x hx (by simp [h, h'])
    | done read' rest b h' =>
      rw [← List.append_assoc]
      exact .done _ rest b (by simp [h, h'])

theorem map {f : List Byte → Parse α} (hf : ReadsOnly f) (g : α → β) : ReadsOnly fun bs => (f bs).map g :=
  hf.bind fun a => .done (g a)

theorem fetch16 : ReadsOnly Sys2Proof.fetch16 := fetch8.bind fun _ => fetch8.bind fun _ => .done _

theorem fetch32 : ReadsOnly Sys2Proof.fetch32 := fetch16.bind fun _ => fetch16.bind fun _ => .done _

theorem fetchIb : ReadsOnly Sys2Proof.fetchIb := (fetch8.map _).map _

theorem fetchIz (z : Size) : ReadsOnly (Sys2Proof.fetchIz z) := by
  cases z with
  | b16 => exact fetch16.map _
  | b32 => exact fetch32

theorem fetchDisp16 (mod : BitVec 2) : ReadsOnly (Sys2Proof.fetchDisp16 mod) := by
  unfold Sys2Proof.fetchDisp16
  split
  · exact .done _
  · exact fetch8.map _
  · exact fetch16.map _

theorem fetchDisp32 (mod : BitVec 2) : ReadsOnly (Sys2Proof.fetchDisp32 mod) := by
  unfold Sys2Proof.fetchDisp32
  split
  · exact .done _
  · exact fetch8.map _
  · exact fetch32.map _

theorem fetchMem16 (mod : BitVec 2) (rm : BitVec 3) : ReadsOnly (Sys2Proof.fetchMem16 mod rm) := by
  unfold Sys2Proof.fetchMem16
  split
  · exact fetch16.map _
  · exact (fetchDisp16 mod).map _

theorem fetchSib (mod : BitVec 2) : ReadsOnly (Sys2Proof.fetchSib mod) := by
  refine fetch8.bind fun sib => ?_
  split
  · exact fetch32.map _
  · exact (fetchDisp32 mod).map _

theorem fetchMem32 (mod : BitVec 2) (rm : BitVec 3) : ReadsOnly (Sys2Proof.fetchMem32 mod rm) := by
  unfold Sys2Proof.fetchMem32
  split
  · exact fetchSib mod
  · split
    · exact fetch32.map _
    · exact (fetchDisp32 mod).map _

theorem fetchEOperand (a : Size) (modrm : Byte) : ReadsOnly (Sys2Proof.fetchEOperand false a modrm) := by
  unfold Sys2Proof.fetchEOperand
  split
  · exact .done _
  · cases a with
    | b16 => exact fetchMem16 _ _
    | b32 => exact fetchMem32 _ _

theorem fetchGroupRow (p : AliasPolicy) (z a : Size) (modrm : Byte) (row : GroupRow) :
    ReadsOnly (Sys2Proof.fetchGroupRow p z a modrm row) := by
  have operand := fetchEOperand a modrm
  have withIb := operand.bind fun e => fetchIb.map fun v => (e, v)
  have withIz := operand.bind fun e => (fetchIz z).map fun v => (e, v)
  cases row with
  | e mk => exact operand.map _
  | eIb mk => exact withIb.map _
  | eIz mk => exact withIz.map _
  | aliasE mk =>
    cases p with
    | twin => exact operand.map _
    | undefinedOpcode => exact .done _
  | aliasEIb mk =>
    cases p with
    | twin => exact withIb.map _
    | undefinedOpcode => exact .done _
  | aliasEIz mk =>
    cases p with
    | twin => exact withIz.map _
    | undefinedOpcode => exact .done _
  | undefined mk => exact .done _
  | notInBlock => exact .stop nofun

theorem fetchRow (p : AliasPolicy) (z a : Size) (row : Row) : ReadsOnly (Sys2Proof.fetchRow p z a row) := by
  cases row with
  | eg mk => exact fetch8.bind fun modrm => (fetchEOperand a modrm).map _
  | egIb mk => exact fetch8.bind fun modrm => (fetchEOperand a modrm).bind fun e => fetchIb.map _
  | egIz mk => exact fetch8.bind fun modrm => (fetchEOperand a modrm).bind fun e => (fetchIz z).map _
  | ib mk => exact fetchIb.map _
  | iz mk => exact (fetchIz z).map _
  | plain mk => exact .done _
  | group rows => exact fetch8.bind fun modrm => fetchGroupRow p z a modrm _

theorem fetchRow? (p : AliasPolicy) (z a : Size) (row : Option Row) : ReadsOnly (Sys2Proof.fetchRow? p z a row) := by
  cases row with
  | none => exact .stop nofun
  | some row => exact fetchRow p z a row

theorem fetchBody (p : AliasPolicy) (z a : Size) : ReadsOnly (Sys2Proof.fetchBody p z a) := by
  refine fetch8.bind fun b => ?_
  split
  · exact fetch8.bind fun b' => fetchRow? p z a _
  · exact fetchRow? p z a _

/-- The prefixes and what follows them: the byte that ends the prefixes is the first that is read after them, so a body
that reads a byte decides by the bytes read (30_encoding R308). -/
theorem scanPrefixes_bind {k : List Prefix → List Byte → Parse β} (hk : ∀ ps, ReadsOnly (k ps))
    (hnil : ∀ ps, k ps [] = .stop (.refuse .tooLong) []) (seen : Option Seg) :
    ReadsOnly fun bs => (scanPrefixes seen bs).bind k := by
  intro bs
  induction bs generalizing seen k with
  | nil => exact .short [] rfl
  | cons b bs ih =>
    cases hb : prefixByte b with
    | lock => exact .stop [b] bs (.refuse .lockPrefix) nofun fun more => by simp [scanPrefixes, hb]
    | rep => exact .stop [b] bs (.refuse .repPrefix) nofun fun more => by simp [scanPrefixes, hb]
    | accepted p =>
      cases hc : segmentConflict seen p with
      | true =>
        exact .stop [b] bs (.refuse .multipleSegmentOverrides) nofun fun more => by simp [scanPrefixes, hb, hc]
      | false =>
        have hstep (bs : List Byte) : (scanPrefixes seen (b :: bs)).bind k =
            (scanPrefixes (segmentAfter seen p) bs).bind fun ps => k (p :: ps) := by
          simp only [scanPrefixes, hb, hc]
          cases scanPrefixes (segmentAfter seen p) bs <;> rfl
        exact Decides.cons hstep (ih (fun ps => hk (p :: ps)) (fun ps => hnil (p :: ps)) _)
    | opcode =>
      have hstep (bs : List Byte) : (scanPrefixes seen (b :: bs)).bind k = k [] (b :: bs) := by
        simp [scanPrefixes, hb]
      exact Decides.congr_cons hstep (hnil []) (hk [] (b :: bs))

/-- The whole reading decides by the bytes it reads (30_encoding R350). -/
theorem fetchInstr (m : Mode) : ReadsOnly (Sys2Proof.fetchInstr m) :=
  scanPrefixes_bind (fun ps => (fetchBody _ _ _).map (Prod.mk ps)) (fun _ => rfl) none

end Parse.ReadsOnly

/-! ### What a decode reads -/

/-- A decode ends after some bytes of the window, whatever bytes follow them, or takes the whole window and refuses
(30_encoding R303, R350). -/
theorem decodeWindow_cases (m : Mode) (w : List Byte) :
    decodeWindow m w = ⟨.refuse .tooLong, w.length⟩ ∨
      ∃ read rest o, w = read ++ rest ∧ o ≠ .refuse .tooLong ∧
        ∀ more, decodeWindow m (read ++ more) = ⟨o, read.length⟩ := by
  cases Parse.ReadsOnly.fetchInstr m w with
  | short _ h => exact .inl (decodeWindow_of_stop (List.append_nil w).symm h)
  | done read rest x h => exact .inr ⟨read, rest, .instr _, rfl, nofun, fun more => decodeWindow_of_done rfl (h more)⟩
  | stop read rest x hx h =>
    refine .inr ⟨read, rest, x.outcome, rfl, ?_, fun more => decodeWindow_of_stop rfl (h more)⟩
    cases x with
    | refuse r => simpa [DecodeStop.outcome] using hx
    | fatal r => nofun

theorem decodeWindow_len_le (m : Mode) (w : List Byte) : (decodeWindow m w).len ≤ w.length := by
  obtain hd | ⟨read, rest, o, rfl, -, hd⟩ := decodeWindow_cases m w
  · rw [hd]
  · rw [hd]
    simp

/-- Settles O10: both windows hold the bytes the decode of the first reads. -/
theorem decodeReadsItsBytesAlone : Obligations.DecodeReadsItsBytesAlone := by
  intro m x y hx hy hagree
  unfold decode at hagree ⊢
  have hlen (z : List Byte) (hz : 15 ≤ z.length) : (z.take maxLength).length = maxLength :=
    List.length_take_of_le hz
  obtain hd | ⟨read, rest, o, hw, -, hd⟩ := decodeWindow_cases m (x.take maxLength)
  · rw [hd, hlen x hx] at hagree
    rw [hagree]
  · have hdx : decodeWindow m (x.take maxLength) = ⟨o, read.length⟩ := by rw [hw, hd]
    have hread : read.length ≤ maxLength := by
      rw [← hlen x hx, hw, List.length_append]
      exact Nat.le_add_right _ _
    rw [hdx] at hagree ⊢
    have htake (z : List Byte) : (z.take maxLength).take read.length = z.take read.length := by
      rw [List.take_take, Nat.min_eq_left hread]
    have hy : (y.take maxLength).take read.length = read := by
      rw [htake, ← hagree, ← htake, hw, List.take_left]
    rw [← List.take_append_drop read.length (y.take maxLength), hy, hd]

/-- A decode that refuses a window of which it could read more bytes has not refused for its length. -/
theorem len_of_tooLong {m : Mode} {w : List Byte} (h : (decodeWindow m w).outcome = .refuse .tooLong) :
    (decodeWindow m w).len = w.length := by
  obtain hd | ⟨read, rest, o, rfl, ho, hd⟩ := decodeWindow_cases m w
  · rw [hd]
  · rw [hd] at h
    exact absurd h ho

/-- A part of the encoding of an instruction that is not all of it runs out of bytes (30_encoding R303). -/
theorem fetchInstr_of_encode_eq {m : Mode} {i : Instr} (hs : i.shapeOk m = true) {w t : List Byte}
    (hw : encode i = w ++ t) (ht : t ≠ []) : fetchInstr m w = .stop (.refuse .tooLong) [] := by
  obtain ⟨mk, hf, -⟩ := fetchInstr_encode hs []
  rw [List.append_nil, hw] at hf
  cases Parse.ReadsOnly.fetchInstr m w with
  | short _ h => exact h
  | done read rest x h =>
    rw [List.append_assoc, h] at hf
    exact absurd (Parse.done.inj hf).2 (by simp [ht])
  | stop read rest x hx h =>
    rw [List.append_assoc, h] at hf
    cases hf

/-- Agreeing prefixes are read in turn, and what follows them after the segment they name (30_encoding R305). -/
theorem scanPrefixes_append (ps : List Prefix) (seen : Option Seg) (hs : segmentsAgree seen ps = true)
    (bs : List Byte) :
    scanPrefixes seen (ps.map Prefix.toByte ++ bs) = (scanPrefixes (ps.foldl segmentAfter seen) bs).map (ps ++ ·) := by
  induction ps generalizing seen with
  | nil =>
    show scanPrefixes seen bs = (scanPrefixes seen bs).map id
    cases scanPrefixes seen bs <;> rfl
  | cons p ps ih =>
    simp only [segmentsAgree, Bool.and_eq_true, Bool.not_eq_true'] at hs
    simp [scanPrefixes, hs.1, ih _ hs.2, Parse.map_map]

/-- Settles O5: the window has at most 15 bytes, and a decode that runs out of them has read them all. -/
theorem lengthLimit : Obligations.LengthLimit := by
  intro m bytes
  have hlen : (decode m bytes).len ≤ 15 :=
    (decodeWindow_len_le m _).trans (List.length_take_le _ _)
  have hshort {w : List Byte} (hw : bytes.take maxLength = w) (h15 : w.length = 15)
      (h : fetchInstr m w = .stop (.refuse .tooLong) []) :
      decode m bytes = { outcome := .refuse .tooLong, len := 15 } := by
    rw [decode, hw, decodeWindow_of_stop (List.append_nil w).symm h, h15]
    rfl
  refine ⟨hlen, ?_, ?_, ?_⟩
  · intro i hs hi hb
    have hrest : (encode i).drop 15 ≠ [] := fun h => absurd (List.drop_eq_nil_iff.mp h) (by omega)
    exact hshort hb (List.length_take_of_le hi.le)
      (fetchInstr_of_encode_eq hs (List.take_append_drop 15 _).symm hrest)
  · intro ps hs h15 hb
    refine hshort hb (by simp [h15]) ?_
    have hps := scanPrefixes_append ps none hs []
    rw [List.append_nil] at hps
    rw [fetchInstr, hps]
    rfl
  · intro hb h
    exact (len_of_tooLong h).trans (List.length_take_of_le hb)

/-! ### Refusals before an instruction is complete -/

/-- A reading that stops after at most 15 bytes, whatever follows them, is the decode (30_encoding R303, R350). -/
theorem decode_of_stop {m : Mode} {read : List Byte} {x : DecodeStop} (hlen : read.length ≤ maxLength)
    (h : ∀ more, fetchInstr m (read ++ more) = .stop x more) (rest : List Byte) :
    decode m (read ++ rest) = ⟨x.outcome, read.length⟩ := by
  rw [decode, List.take_append, List.take_of_length_le hlen]
  exact decodeWindow_of_stop rfl (h _)

/-- A byte that ends the reading of the prefixes in a refusal is the last one read (60_exceptions R1110). -/
theorem decode_of_scanPrefixes_stop {m : Mode} {ps : List Prefix} {b : Byte} {r : RefuseReason}
    (hs : segmentsAgree none ps = true) (hlen : ps.length < 15)
    (h : ∀ more, scanPrefixes (ps.foldl segmentAfter none) (b :: more) = .stop (.refuse r) more) (rest : List Byte) :
    decode m (ps.map Prefix.toByte ++ b :: rest) = ⟨.refuse r, ps.length + 1⟩ := by
  have hread : (ps.map Prefix.toByte ++ [b]).length = ps.length + 1 := by simp
  rw [List.append_cons, ← hread]
  refine decode_of_stop (x := .refuse r) (by rw [hread]; exact hlen) (fun more => ?_) rest
  rw [List.append_assoc, fetchInstr, scanPrefixes_append ps none hs, List.singleton_append, h]
  rfl

/-- The segment that agreeing prefixes name is the one any of them names (30_encoding R305). -/
theorem foldl_segmentAfter {ps : List Prefix} {seen : Option Seg} {x : Seg} (hs : segmentsAgree seen ps = true)
    (hx : seen = some x ∨ .seg x ∈ ps) : ps.foldl segmentAfter seen = some x := by
  induction ps generalizing seen with
  | nil => simpa using hx
  | cons p ps ih =>
    simp only [segmentsAgree, Bool.and_eq_true, Bool.not_eq_true'] at hs
    obtain ⟨hc, hs⟩ := hs
    refine ih hs ?_
    cases p with
    | seg y =>
      obtain rfl | hx := hx
      · have hxy : x = y := by simpa [segmentConflict, Prefix.segment] using hc
        exact .inl (congrArg some hxy.symm)
      · obtain hxy | hx := List.mem_cons.mp hx
        · cases hxy
          exact .inl rfl
        · exact .inr hx
    | operandSize | addressSize => simpa [segmentAfter, Prefix.segment] using hx

/-- Settles O6: the prefixes before it are accepted, and the byte itself is refused. -/
theorem refusedPrefixes : Obligations.RefusedPrefixes := by
  intro m ps rest hs hlen
  refine ⟨?_, ?_, ?_, fun x y hx hxy => ?_⟩
  · exact decode_of_scanPrefixes_stop hs hlen (fun _ => rfl) rest
  · exact decode_of_scanPrefixes_stop hs hlen (fun _ => rfl) rest
  · exact decode_of_scanPrefixes_stop hs hlen (fun _ => rfl) rest
  · refine decode_of_scanPrefixes_stop hs hlen (fun more => ?_) rest
    have hc : segmentConflict (some x) (.seg y) = true := by simpa [segmentConflict, Prefix.segment] using hxy
    rw [foldl_segmentAfter hs (.inr hx)]
    simp [scanPrefixes, hc]

/-- Opcode bytes after accepted prefixes that end the reading in a refusal are the last ones read (60_exceptions
R1110). -/
theorem decode_of_fetchBody_stop {m : Mode} {ps : List Prefix} {b : Byte} {bs : List Byte} {r : RefuseReason}
    (hs : segmentsAgree none ps = true) (hlen : ps.length + (b :: bs).length ≤ 15) (hb : prefixByte b = .opcode)
    (h : ∀ p z a more, fetchBody p z a (b :: (bs ++ more)) = .stop (.refuse r) more) (rest : List Byte) :
    decode m (ps.map Prefix.toByte ++ b :: (bs ++ rest)) = ⟨.refuse r, ps.length + (b :: bs).length⟩ := by
  have hread : (ps.map Prefix.toByte ++ b :: bs).length = ps.length + (b :: bs).length := by simp
  rw [← List.cons_append, ← List.append_assoc, ← hread]
  refine decode_of_stop (x := .refuse r) (by rw [hread]; exact hlen) (fun more => ?_) rest
  rw [List.append_assoc, List.cons_append, fetchInstr, scanPrefixes_encode ps none b _ hs hb, Parse.bind_done, h]
  rfl

/-- The one-byte opcodes outside the block are no prefixes and have no row (30_encoding R361). -/
theorem outsideOneByte_spec : ∀ b : Byte, Machine.outsideOneByte b.toNat = true →
    prefixByte b = .opcode ∧ b ≠ 0x0F#8 ∧ (rowOf map1 b).isNone = true := by decide +kernel

/-- The second opcode bytes outside the block have no row (30_encoding R361). -/
theorem outsideTwoByte_spec : ∀ b : Byte, Machine.outsideTwoByte b.toNat = true → (rowOf map2 b).isNone = true := by
  decide +kernel

/-- Rows 2 to 6 of group 5 are outside the block (30_encoding R361, R362). -/
theorem groupFF_outside (d : BitVec 3) (h2 : 2 ≤ d.toNat) (h6 : d.toNat ≤ 6) :
    groupFF.getD d.toNat .notInBlock = .notInBlock := by
  interval_cases d.toNat <;> rfl

/-- Settles O7: a byte without a row ends the reading. -/
theorem outsideOpcodesRefused : Obligations.OutsideOpcodesRefused := by
  intro m ps b rest hs
  refine ⟨fun hlen hb => ?_, fun hlen hb => ?_, fun hlen h2 h6 => ?_⟩
  · obtain ⟨hop, h0F, hrow⟩ := outsideOneByte_spec b hb
    refine decode_of_fetchBody_stop (bs := []) hs hlen hop (fun p z a more => ?_) rest
    simp only [List.nil_append, fetchBody, fetch8_cons, Parse.bind_done, h0F, if_false]
    rw [Option.isNone_iff_eq_none.mp hrow, fetchRow?]
  · refine decode_of_fetchBody_stop (bs := [b]) hs (by simp; omega) rfl (fun p z a more => ?_) rest
    show fetchRow? p z a (rowOf map2 b) more = _
    rw [Option.isNone_iff_eq_none.mp (outsideTwoByte_spec b hb), fetchRow?]
  · refine decode_of_fetchBody_stop (bs := [b]) hs (by simp; omega) rfl (fun p z a more => ?_) rest
    show fetchGroupRow p z a b (groupFF.getD (regField b).toNat .notInBlock) more = _
    rw [groupFF_outside _ h2 h6, fetchGroupRow]

/-- Settles O1: each word is decoded by computation. -/
theorem specWordsDecode : Obligations.SpecWordsDecode := by
  refine ⟨?_, ?_, ?_, ?_, ?_, ?_, ?_, ?_, ?_, ?_, ?_, ?_⟩ <;> rfl

end Sys2Proof
end

section
/-!
SUPPORT. The statements about the operands and the fetches: the effective addresses, the order of the instruction
fetches, and the growth of the accessor cache.
-/
namespace Sys2Proof.Machine

/-! ### The order of the fetches -/

/-- One more fetch comes after the others. -/
theorem State.fetchBytes_succ (n k : Nat) (s : State) :
    (s.fetchBytes (n + 1) k).2 = ((s.fetchBytes n k).2.fetchByte (k + n)).2 := by
  induction n generalizing k s with
  | zero => rfl
  | succ n ih =>
    rw [State.fetchBytes, ih, State.fetchBytes, Nat.add_right_comm]
    rfl

theorem State.afterFetch_succ (n : Nat) (s : State) : s.afterFetch (n + 1) = ((s.afterFetch n).fetchByte n).2 := by
  rw [State.afterFetch, State.fetchBytes_succ, Nat.zero_add, State.afterFetch]

/-- The fetch of one byte is one read at the place of the byte (30_encoding R302; 10_state R120). -/
theorem State.fetchByte_busLog (s : State) (k : Nat) :
    (s.fetchByte k).2.busLog =
      .memRead (s.linear .cs (s.ipwrap (s.eip + BitVec.ofNat 32 k))) .byte ((s.fetchByte k).1.setWidth 32) ::
        s.busLog := by
  simp [State.fetchByte, State.memRead]

/-- Fetches move no instruction byte. -/
theorem State.linear_afterFetch (s : State) (n k : Nat) :
    (s.afterFetch n).linear .cs ((s.afterFetch n).ipwrap ((s.afterFetch n).eip + BitVec.ofNat 32 k)) =
      s.linear .cs (s.ipwrap (s.eip + BitVec.ofNat 32 k)) := by
  simp [State.linear, State.segBase, State.ipwrap]

/-- The calls of the fetches, the newest first, each with the value it returned (30_encoding R302). -/
theorem State.afterFetch_busLog (s : State) (n : Nat) :
    (s.afterFetch n).busLog =
      ((List.range n).map fun k =>
        BusCall.memRead (s.linear .cs (s.ipwrap (s.eip + BitVec.ofNat 32 k))) .byte
          (((s.afterFetch k).fetchByte k).1.setWidth 32)).reverse ++ s.busLog := by
  induction n with
  | zero => rfl
  | succ n ih =>
    rw [State.afterFetch_succ, State.fetchByte_busLog, State.linear_afterFetch, ih, List.range_succ, List.map_append,
      List.reverse_append]
    rfl

/-- Fetches change nothing but the model's own fields (log 13, 14). -/
theorem State.afterFetch_eq (s : State) (n : Nat) :
    s.afterFetch n = { s with draws := (s.afterFetch n).draws, busLog := (s.afterFetch n).busLog } := by
  obtain ⟨hgpr, hseg, heip, hflags, hother, hstatus, hmem, hparams, hpending, -⟩ := Same.afterFetch s n
  have hcache : (s.afterFetch n).accessorCache = s.accessorCache := s.afterFetch_accessorCache n
  rw [← hgpr, ← hseg, ← heip, ← hflags, ← hother, ← hstatus, ← hmem, ← hparams, ← hpending, ← hcache]

/-- Settles O23: each fetch records its read, and leaves the place of the next as it was. -/
theorem fetchOrder : Obligations.FetchOrder :=
  fun s n => ⟨_, s.afterFetch_busLog n, s.afterFetch_eq n⟩

/-! ### Effective addresses -/

/-- A sum of 16 bits as an offset: the sum over the integers, reduced (30_encoding R318). -/
theorem setWidth_eq_ofInt_emod {x : BitVec 16} {n : Int} (hx : x = BitVec.ofInt 16 n) :
    x.setWidth 32 = BitVec.ofInt 32 (n % 2 ^ 16) := by
  subst hx
  apply BitVec.eq_of_toNat_eq
  simp only [BitVec.toNat_setWidth, BitVec.toNat_ofInt]
  omega

theorem ofInt_emod_32 (n : Int) : BitVec.ofInt 32 (n % 2 ^ 32) = BitVec.ofInt 32 n := by
  apply BitVec.eq_of_toNat_eq
  simp only [BitVec.toNat_ofInt]
  omega

theorem ofInt_toNat {w : Nat} (x : BitVec w) : BitVec.ofInt w x.toNat = x := by simp

/-- A 16-bit displacement over the integers: disp8 is signed (30_encoding R316). -/
def disp16Int : Disp16 → Int
  | .none => 0
  | .d8 v => v.toInt
  | .d16 v => v.toNat

/-- A 32-bit displacement over the integers: disp8 is signed (30_encoding R320). -/
def disp32Int : Disp32 → Int
  | .none => 0
  | .d8 v => v.toInt
  | .d32 v => v.toNat

theorem disp16Value_eq (d : Disp16) : disp16Value d = BitVec.ofInt 16 (disp16Int d) := by
  cases d with
  | none => rfl
  | d8 v => rfl
  | d16 v => exact (ofInt_toNat v).symm

theorem disp32Value_eq (d : Disp32) : disp32Value d = BitVec.ofInt 32 (disp32Int d) := by
  cases d with
  | none => rfl
  | d8 v => rfl
  | d32 v => exact (ofInt_toNat v).symm

/-- Settles O14: each sum of the table, over the integers and reduced. -/
theorem effectiveAddress16 : Obligations.EffectiveAddress16 := by
  intro h s d x disp r16 at16
  have hoff {y : BitVec 16} {n : Int} (seg : Seg) (hy : y = BitVec.ofInt 16 n) :
      Loc.mem (s.linearOf h ⟨seg, y.setWidth 32⟩) = at16 seg n := by
    rw [setWidth_eq_ofInt_emod hy]
    rfl
  have hd : disp16Value d = BitVec.ofInt 16 disp := disp16Value_eq d
  have hr (r : Reg) : s.r16 r = BitVec.ofInt 16 (r16 r) := (ofInt_toNat (s.r16 r)).symm
  have hone (r : Reg) : s.r16 r + disp16Value d = BitVec.ofInt 16 (r16 r + disp) := by
    rw [BitVec.ofInt_add, ← hr, ← hd]
  have htwo (q r : Reg) : s.r16 q + s.r16 r + disp16Value d = BitVec.ofInt 16 (r16 q + r16 r + disp) := by
    rw [BitVec.ofInt_add, BitVec.ofInt_add, ← hr, ← hr, ← hd]
  exact ⟨hoff .ds (htwo .bx .si), hoff .ds (htwo .bx .di), hoff .ss (htwo .bp .si), hoff .ss (htwo .bp .di),
    hoff .ds (hone .si), hoff .ds (hone .di), hoff .ss (hone .bp), hoff .ds (hone .bx), hoff .ds (ofInt_toNat x).symm⟩

/-- The scaled index over the integers: none for the number 4 (30_encoding R321, R322). -/
theorem State.scaledIndex_eq (s : State) (sc : BitVec 2) (i : Reg) :
    s.scaledIndex sc i =
      BitVec.ofInt 32 (if i = .sp then 0 else ((s.readReg .dword i).toNat : Int) * 2 ^ sc.toNat) := by
  unfold State.scaledIndex
  split
  · rfl
  · apply BitVec.eq_of_toNat_eq
    simp only [BitVec.toNat_shiftLeft, BitVec.toNat_ofInt, Nat.shiftLeft_eq, State.r32]
    norm_cast

/-- Settles O15: each sum of the forms, over the integers and reduced. -/
theorem effectiveAddress32 : Obligations.EffectiveAddress32 := by
  intro h s b i sc d x disp r32 index at32 esp
  have hoff {y : Dword} {n : Int} (seg : Seg) (hy : y = BitVec.ofInt 32 n) :
      Loc.mem (s.linearOf h ⟨seg, y⟩) = at32 seg n := by
    rw [hy, ← ofInt_emod_32]
    rfl
  have hd : disp32Value d = BitVec.ofInt 32 disp := disp32Value_eq d
  have hr (r : Reg) : s.r32 r = BitVec.ofInt 32 (r32 r) := (ofInt_toNat (s.r32 r)).symm
  have hi : s.scaledIndex sc i = BitVec.ofInt 32 index := s.scaledIndex_eq sc i
  have hx : x = BitVec.ofInt 32 x.toNat := (ofInt_toNat x).symm
  refine ⟨fun _ => hoff _ ?_, hoff .ds hx, hoff _ ?_, hoff .ds ?_⟩
  · rw [BitVec.ofInt_add, ← hr, ← hd]
  · rw [BitVec.ofInt_add, BitVec.ofInt_add, ← hr, ← hi, ← hd]
  · rw [BitVec.ofInt_add, ← hi, ← hx]

/-! ### The accessor cache -/

/-- From `s` to `t` the accessor cache keeps its shapes, in their order, and gets none it has (30_encoding R336). -/
structure CacheGrows (s t : State) : Prop where
  kept : s.accessorCache <+: t.accessorCache
  nodup : s.accessorCache.Nodup → t.accessorCache.Nodup

namespace CacheGrows

theorem of_eq {s t : State} (h : t.accessorCache = s.accessorCache) : CacheGrows s t :=
  ⟨by rw [h], by rw [h]; exact id⟩

theorem trans {s t u : State} (h : CacheGrows s t) (k : CacheGrows t u) : CacheGrows s u :=
  ⟨h.kept.trans k.kept, k.nodup ∘ h.nodup⟩

/-- A state whose cache is that of `t`. -/
theorem congr {s t u : State} (h : CacheGrows s t) (hu : u.accessorCache = t.accessorCache) : CacheGrows s u :=
  h.trans (of_eq hu)

/-- A request caches its shape where it is not cached (30_encoding R336). -/
theorem getOrCreate (s : State) (x : Shape) : CacheGrows s (s.getOrCreate x) where
  kept := s.getOrCreate_cache x
  nodup hs := by
    unfold State.getOrCreate
    split
    case isTrue => exact hs
    case isFalse hx =>
      rw [State.setCache_accessorCache, ← List.concat_eq_append]
      exact hs.concat (by simpa using hx)

theorem requestAll (s : State) (xs : List Shape) : CacheGrows s (s.requestAll xs) := by
  induction xs generalizing s with
  | nil => exact of_eq rfl
  | cons x xs ih => exact (getOrCreate s x).trans (ih _)

theorem loadAddress (s : State) (w : Width) (h : Head) (d : Dest) : CacheGrows s (s.loadAddress w h d).2 :=
  getOrCreate s _

theorem loadValue (s : State) (w : Width) (h : Head) (o : Operand) : CacheGrows s (s.loadValue w h o).2 := by
  cases o with
  | memory e => exact (getOrCreate s _).congr (State.loadLoc_accessorCache _ w _)
  | register | imm8 | immZ | fixed | one => exact getOrCreate s _

theorem loadImplicit (s : State) (w : Width) (h : Head) (e : EOperand) (ds rs : List (Width × Reg)) :
    CacheGrows s (s.loadImplicit w h e ds rs).2 :=
  ((requestAll s _).trans (loadValue _ w h _)).trans (requestAll _ _)

/-- The load of a destination and its location's value. -/
theorem loadDest (s : State) (w : Width) (h : Head) (d : Dest) :
    CacheGrows s ((s.loadAddress w h d).2.loadLoc w (s.loadAddress w h d).1).2 :=
  (loadAddress s w h d).congr (State.loadLoc_accessorCache _ w _)

theorem jumpIf (c : Cond) (h : Head) (rel : Dword) (s : State) : CacheGrows s (s.jumpIf c h rel) := by
  simp only [State.jumpIf]
  split <;> exact of_eq (by simp)

theorem binary (op : BinOp) (w : Width) (h : Head) (d : Dest) (x : Operand) (s : State) :
    CacheGrows s (s.binary op w h d x) := by
  refine ((loadDest s w h d).trans (loadValue _ w h x)).congr ?_
  simp only [State.binary]
  split <;> simp

theorem shift (op : ShiftOp) (w : Width) (h : Head) (e : EOperand) (n : Operand) (s : State) :
    CacheGrows s (s.shift op w h e n) := by
  refine ((loadDest s w h (.memory e)).trans (loadValue _ .byte h n)).congr ?_
  simp only [State.shift]
  split <;> simp

theorem portIn (w : Width) (h : Head) (p : Operand) (s : State) : CacheGrows s (s.portIn w h p) := by
  simp only [State.portIn]
  split
  · exact of_eq rfl
  · exact ((loadAddress s w h (.fixed .ax)).trans (loadValue _ .word h p)).congr (by simp)

theorem portOut (w : Width) (h : Head) (p : Operand) (s : State) : CacheGrows s (s.portOut w h p) := by
  simp only [State.portOut]
  split
  · exact of_eq rfl
  · exact ((loadValue s .word h p).trans (loadValue _ w h (.fixed .ax))).congr (by simp)

/-- `deliver` ends the run, or requests the shapes of the state it is handed back (log 15). -/
theorem deliver (s : State) (e : Event) : CacheGrows s (s.deliver e) := by
  obtain hd | ⟨x, -, -, hd⟩ := s.deliver_cases e
  · rw [hd]
    exact of_eq (s.stopRun_accessorCache e)
  · rw [hd]
    exact (requestAll s x.shapes).congr (s.resume_accessorCache x)

end CacheGrows

/-- An instruction that raises no event requests the shapes of its operands (30_encoding R335, R336). -/
theorem Ran.cacheGrows {s t : State} (h : Ran s t) : CacheGrows s t := by
  cases h with
  | binary op w h d x => exact .binary op w h d x s
  | test w h x y =>
    exact ((CacheGrows.loadValue s w h x).trans (.loadValue _ w h y)).congr (by simp [State.test])
  | unary op w h d => exact (CacheGrows.loadDest s w h d).congr (by simp [State.unary])
  | mul w h e => exact (CacheGrows.loadImplicit s w h e (productRegs w) [(w, .ax)]).congr (by simp [State.mul])
  | imul w h e => exact (CacheGrows.loadImplicit s w h e (productRegs w) [(w, .ax)]).congr (by simp [State.imul])
  | divided w h e r q =>
    exact (CacheGrows.loadImplicit s w h e (quotientRegs w) (productRegs w)).congr (by simp)
  | imul2 w h r e =>
    exact ((CacheGrows.loadDest s w h (.register r)).trans (.loadValue _ w h (.memory e))).congr
      (by simp [State.imul2])
  | imul3 w h r e x =>
    exact (((CacheGrows.loadAddress s w h (.register r)).trans (.loadValue _ w h (.memory e))).trans
      (.loadValue _ w h x)).congr (by simp [State.imul3])
  | shift op w h e n => exact .shift op w h e n s
  | clc | stc | cmc | intoNot => exact .of_eq rfl
  | lahf h => exact (CacheGrows.loadAddress s .byte h (.fixed .sp)).congr (by simp [State.lahf])
  | sahf h => exact (CacheGrows.loadValue s .byte h (.fixed .sp)).congr (by simp [State.sahf])
  | jumpShort c h v => exact (CacheGrows.loadValue s .dword h _).trans (.jumpIf c h _ _)
  | jumpNear c h v => exact (CacheGrows.loadValue s _ h _).trans (.jumpIf c h _ _)
  | setcc c h e => exact (CacheGrows.loadAddress s .byte h (.memory e)).congr (by simp [State.setcc])
  | portIn w h p => exact .portIn w h p s
  | portOut w h p => exact .portOut w h p s

/-- An instruction that raises an event has requested the shapes of its operands at most (30_encoding R336). -/
theorem Raised.cacheGrows {s u : State} {e : Event} (h : Raised s u e) : CacheGrows s u := by
  cases h with
  | divide w h e => exact .loadImplicit s w h e _ _
  | undefinedOpcode | int3 | into => exact .of_eq rfl
  | intN h v => exact (CacheGrows.loadValue s .byte h _).congr (State.advance_accessorCache _ _)

/-- Settles O30: every request of a step appends at most its shape, and so does every `deliver`. -/
theorem accessorCacheGrows : Obligations.AccessorCacheGrows := by
  intro s t h
  have hfetch (n : Nat) : CacheGrows s (s.takeOffer.afterFetch n) :=
    .of_eq (State.afterFetch_accessorCache s.takeOffer n)
  have hgrows : CacheGrows s t := by
    obtain ⟨-, ⟨-, rfl⟩ | ⟨-, hcase⟩⟩ := step_next h
    · exact .of_eq rfl
    · obtain ⟨v, -, rfl⟩ | ⟨n, hr⟩ | ⟨n, u, e, hr, rfl⟩ | ⟨n, r, rfl⟩ | ⟨n, r, rfl⟩ := hcase
      · exact (hfetch 0).trans (.deliver s.takeOffer _)
      · exact (hfetch n).trans hr.cacheGrows
      · exact ((hfetch n).trans hr.cacheGrows).trans (.deliver u e)
      · exact (hfetch n).congr rfl
      · exact (hfetch n).congr rfl
  exact ⟨hgrows.kept, hgrows.nodup⟩

end Sys2Proof.Machine
end

section
/-!
SUPPORT. The statements about the flag engine: its reads, `write flags`, and the invariant of 40_flag_engine R422,
which every step keeps since the actions of every instruction name one tag per group, and a tag that defines its flag.
-/
namespace Sys2Proof.Machine

/-! ### Reads -/

/-- A read leaves nothing for a second read of the flag to evaluate (40_flag_engine R431). -/
theorem FlagEngine.resolve_resolve (e : FlagEngine) (f : Flag) : (e.resolve f).resolve f = e.resolve f :=
  FlagEngine.resolve_of_ovr (b := e.value f) (by simp)

theorem State.readFlag_readFlag (s : State) (f : Flag) : (s.readFlag f).2.readFlag f = s.readFlag f :=
  Prod.ext (s.flag_readFlag f f) (congrArg s.setFlags (s.flags.resolve_resolve f))

/-- A flag with a full override is read off it (40_flag_engine R430). -/
theorem State.readFlag_of_ovr {s : State} {f : Flag} {v : Bool} (h : s.flags.ovr f = some v) :
    s.readFlag f = (v, s) :=
  Prod.ext (FlagEngine.value_of_ovr h) (congrArg s.setFlags (FlagEngine.resolve_of_ovr h))

/-- A pending flag has the value that its group's tag defines (40_flag_engine R430). -/
theorem FlagEngine.value_of_tag {e : FlagEngine} {f : Flag} {t : Tag} {v : Bool} (ho : e.ovr f = none)
    (ht : e.tag (groupOf f) = some t) (hv : evalFlag f t = some v) : e.value f = v := by
  simp only [FlagEngine.value, FlagEngine.pendingValue, ho, ht, Option.bind_some, hv]

/-- Settles O16: the second read is the first one again, state included. -/
theorem flagReadOnce : Obligations.FlagReadOnce := by
  intro s f
  rw [s.readFlag_readFlag f]
  exact ⟨rfl, rfl, rfl⟩

/-- Settles O17: the invariant gives a pending flag a tag that defines it, whose value the read caches. -/
theorem flagRead : Obligations.FlagRead := by
  intro s f hs
  refine ⟨fun v => State.readFlag_of_ovr, fun ho => ?_⟩
  obtain ⟨t, ht, hd⟩ := s.flags.valid_iff.mp hs f ho
  obtain ⟨v, hv⟩ := Option.isSome_iff_exists.mp hd
  have hval : s.flags.value f = v := FlagEngine.value_of_tag ho ht hv
  refine ⟨t, v, ht, hv, hval, rfl, ?_, s.flags.tag_resolve f, fun g => ?_⟩
  · exact (s.flags.evalCount_resolve f).trans (by rw [ho]; rfl)
  · exact hval ▸ s.flags.ovr_resolve f g

/-! ### Writes -/

/-- Settles O18: the group update leaves each flag's slots as its action says and touches the engine alone. -/
theorem flagWrite : Obligations.FlagWrite := fun _ s ha => ⟨s.writeFlags_wrote ha, rfl⟩

/-! ### Sound actions -/

/-- If the action of the flag `f` is lazy, its tag is `t`, and `t` defines `f` (40_flag_engine R410, R440). -/
inductive FlagAction.PendsOn (t : Tag) (f : Flag) : FlagAction → Prop where
  | lazy (hd : definesFlag t f = true) : PendsOn t f (.lazy t)
  | explicit (b : Bool) : PendsOn t f (.explicit b)
  | undef : PendsOn t f .undef
  | keep : PendsOn t f .keep

theorem FlagAction.PendsOn.lazy_iff {t u : Tag} {f : Flag} :
    FlagAction.PendsOn t f (.lazy u) ↔ u = t ∧ definesFlag t f = true := by
  constructor
  · rintro (hd | _)
    exact ⟨rfl, hd⟩
  · rintro ⟨rfl, hd⟩
    exact .lazy hd

theorem FlagAction.tag?_eq_some {x : FlagAction} {t : Tag} : x.tag? = some t ↔ x = .lazy t := by
  cases x <;> simp [FlagAction.tag?]

/-- Where each group has a tag on which its lazy flags pend, the group takes that tag (40_flag_engine R440). -/
theorem FlagActions.sound_of_pendsOn {a : FlagActions} (tags : FlagGroup → Tag)
    (h : ∀ f, (a.get f).PendsOn (tags (groupOf f)) f) : a.sound := by
  intro f t hf
  have hpend (g : Flag) (u : Tag) (hu : a.get g = .lazy u) := FlagAction.PendsOn.lazy_iff.mp (hu ▸ h g)
  obtain ⟨rfl, hd⟩ := hpend f t hf
  refine ⟨?_, hd⟩
  cases hg : groupTag a (groupOf f) with
  | none =>
    have hnone := List.findSome?_eq_none_iff.mp hg f ((mem_flagsOf f _).mpr rfl)
    rw [hf] at hnone
    cases hnone
  | some u =>
    obtain ⟨g, hmem, hu⟩ := List.exists_of_findSome?_eq_some hg
    rw [(hpend g u (FlagAction.tag?_eq_some.mp hu)).1, (mem_flagsOf g _).mp hmem]

/-- The tags of a result that sets SF, ZF and PF beside a tag for the other flags (40_flag_engine R418). -/
def resultTags (w : Width) (r : BitVec w.bits) (t : Tag) : FlagGroup → Tag
  | .ca => t
  | .o => t
  | .szp => .value w r

theorem resultActions_sound {w : Width} {r : BitVec w.bits} {c a o : FlagAction} (t : Tag) (hc : c.PendsOn t .cf)
    (ha : a.PendsOn t .af) (ho : o.PendsOn t .of) : (resultActions w r c a o).sound :=
  FlagActions.sound_of_pendsOn (resultTags w r t) fun
    | .cf => hc
    | .af => ha
    | .of => ho
    | .sf | .zf | .pf => FlagAction.PendsOn.lazy rfl

theorem tagActions_sound {w : Width} {r : BitVec w.bits} {t : Tag} (hc : definesFlag t .cf = true)
    (ha : definesFlag t .af = true) (ho : definesFlag t .of = true) : (tagActions w t r).sound :=
  resultActions_sound t (.lazy hc) (.lazy ha) (.lazy ho)

theorem logicActions_sound (w : Width) (r : BitVec w.bits) : (logicActions w r).sound :=
  resultActions_sound (.value w r) (.explicit _) .undef (.explicit _)

theorem BinOp.actions_sound (op : BinOp) (w : Width) (a b : BitVec w.bits) (c : Bool) : (op.actions w a b c).sound := by
  cases op with
  | add | adc | sbb | sub | cmp => exact tagActions_sound rfl rfl rfl
  | or | and | xor => exact logicActions_sound w _

theorem UnOp.actions_sound (op : UnOp) (w : Width) (a : BitVec w.bits) : (op.actions w a).sound := by
  cases op with
  | inc | dec => exact resultActions_sound _ .keep (.lazy rfl) (.lazy rfl)
  | neg => exact tagActions_sound rfl rfl rfl
  | not => exact fun f _ h => by cases f <;> cases h

theorem mulActions_sound {t : Tag} (hc : definesFlag t .cf = true) (ho : definesFlag t .of = true) :
    (mulActions t).sound :=
  FlagActions.sound_of_pendsOn (fun _ => t) fun
    | .cf => .lazy hc
    | .of => .lazy ho
    | .af | .sf | .zf | .pf => .undef

/-- SHL and SHR: the tag of a longer count is not asked for OF (44_shift_rotate R810, R811). -/
theorem shiftActions_sound {w : Width} {r : BitVec w.bits} {c : BitVec 5} {one more : Tag}
    (hc : definesFlag one .cf = true) (ho : definesFlag one .of = true) (hm : definesFlag more .cf = true) :
    (shiftActions w r c one more).sound := by
  unfold shiftActions
  split
  · exact resultActions_sound one (.lazy hc) .undef (.lazy ho)
  · split
    · exact resultActions_sound more (.lazy hm) .undef .undef
    · exact resultActions_sound more .undef .undef .undef

/-- SAR: the tag of a longer count is not asked for OF (44_shift_rotate R812). -/
theorem sarActions_sound {w : Width} {r : BitVec w.bits} {c : BitVec 5} {one more : Tag}
    (hc : definesFlag one .cf = true) (ho : definesFlag one .of = true) (hm : definesFlag more .cf = true) :
    (sarActions w r c one more).sound := by
  unfold sarActions
  split
  · exact resultActions_sound one (.lazy hc) .undef (.lazy ho)
  · exact resultActions_sound more (.lazy hm) .undef .undef

/-- Rotates: OF pends on the tag for the count 1 alone, where the tag defines it (44_shift_rotate R803). -/
theorem rotateActions_sound {c : BitVec 5} {t : Tag} (hc : definesFlag t .cf = true)
    (ho : c = 1#5 → definesFlag t .of = true) : (rotateActions c t).sound := by
  have hof : (ofForOne c t).PendsOn t .of := by
    unfold ofForOne
    split
    case isTrue h1 => exact .lazy (ho h1)
    case isFalse => exact .undef
  exact FlagActions.sound_of_pendsOn (fun _ => t) fun
    | .cf => .lazy hc
    | .of => hof
    | .af | .sf | .zf | .pf => .keep

theorem ShiftOp.actions_sound (op : ShiftOp) (w : Width) (a : BitVec w.bits) (c : BitVec 5) (b : Bool) :
    (op.actions w a c b).sound := by
  cases op with
  | rol | ror | rcl | rcr => exact rotateActions_sound rfl fun h => by subst h; rfl
  | shl | shr => exact shiftActions_sound rfl rfl rfl
  | sar => exact sarActions_sound rfl rfl rfl

/-- CLC, STC and CMC write CF explicitly (45_flag_consumers R901-R903). -/
theorem carryActions_sound (b : Bool) : FlagActions.sound { cf := .explicit b } :=
  fun f _ h => by cases f <;> cases h

theorem sahfActions_sound (x : BitVec 8) : (sahfActions x).sound := fun f _ h => by cases f <;> cases h

theorem allUndefined_sound : allUndefined.sound := fun f _ h => by cases f <;> cases h

/-! ### The invariant along an instruction -/

/-- If the engine of `s` meets its invariant, so does that of `t` (40_flag_engine R422). -/
def ValidKept (s t : State) : Prop := s.flags.valid = true → t.flags.valid = true

namespace ValidKept

theorem of_flags {s t : State} (h : t.flags = s.flags) : ValidKept s t := fun hs => by rwa [h]

theorem of_same {s t : State} (h : Same s t) : ValidKept s t := of_flags h.flags

theorem trans {s t u : State} (h : ValidKept s t) (k : ValidKept t u) : ValidKept s u := k ∘ h

/-- A state whose engine is that of `t`. -/
theorem congr {s t u : State} (h : ValidKept s t) (hu : u.flags = t.flags) : ValidKept s u := h.trans (of_flags hu)

theorem readFlag (s : State) (f : Flag) : ValidKept s (s.readFlag f).2 := FlagEngine.valid_resolve f

/-- A flag write with sound actions, then the advance of `EIP`: how every instruction that writes flags ends. -/
theorem finish {a : FlagActions} (ha : a.sound) (s : State) (n : Nat) : ValidKept s ((s.writeFlags a).advance n) :=
  FlagEngine.valid_write ha (s.flags, s.draws)

theorem readCond (s : State) (c : Cond) : ValidKept s (s.readCond c).2 := by
  cases c with
  | o | no | b | ae | e | ne | s | ns | p | np => exact readFlag _ _
  | be | a | l | ge => exact (readFlag _ _).trans (readFlag _ _)
  | le | g => exact (readFlag _ _).trans ((readFlag _ _).trans (readFlag _ _))

theorem carryIn (s : State) (op : BinOp) : ValidKept s (s.carryIn op).2 := by
  unfold State.carryIn
  split
  · exact readFlag s .cf
  · exact of_flags rfl

theorem shiftCarry (s : State) (op : ShiftOp) : ValidKept s (s.shiftCarry op).2 := by
  unfold State.shiftCarry
  split
  · exact readFlag s .cf
  · exact of_flags rfl

theorem storeLoc (s : State) (w : Width) (l : Loc) (v : BitVec w.bits) : ValidKept s (s.storeLoc w l v) :=
  of_flags (s.storeLoc_flags w l v)

theorem binary (op : BinOp) (w : Width) (h : Head) (d : Dest) (x : Operand) (s : State) :
    ValidKept s (s.binary op w h d x) := by
  simp only [State.binary]
  split
  · exact ((of_flags (by simp)).trans (carryIn _ op)).trans
      ((storeLoc _ w _ _).trans (finish (op.actions_sound w _ _ _) _ h.len))
  · exact ((of_flags (by simp)).trans (carryIn _ op)).trans (finish (op.actions_sound w _ _ _) _ h.len)

theorem shift (op : ShiftOp) (w : Width) (h : Head) (e : EOperand) (n : Operand) (s : State) :
    ValidKept s (s.shift op w h e n) := by
  simp only [State.shift]
  split
  · exact of_flags (by simp)
  · exact ((of_flags (by simp)).trans (shiftCarry _ op)).trans
      ((storeLoc _ w _ _).trans (finish (op.actions_sound w _ _ _) _ h.len))

/-- MUL, IMUL with one operand, and a division that completes (43_muldiv R710, R711, R720, R721). -/
theorem pair {act : FlagActions} (ha : act.sound) (w : Width) (h : Head) (e : EOperand) (ds rs : List (Width × Reg))
    (hi lo : BitVec w.bits) (s : State) :
    ValidKept s ((((s.loadImplicit w h e ds rs).2.writePair w hi lo).writeFlags act).advance h.len) :=
  (of_flags (by simp)).trans (finish ha _ h.len)

theorem lahf (h : Head) (s : State) : ValidKept s (s.lahf h) :=
  .congr (.trans (of_same (.loadAddress s .byte h (.fixed .sp))) <| (readFlag _ .sf).trans <| (readFlag _ .zf).trans <|
    (readFlag _ .af).trans <| (readFlag _ .pf).trans (readFlag _ .cf)) (by simp [State.lahf])

theorem jumpIf (c : Cond) (h : Head) (rel : Dword) (s : State) : ValidKept s (s.jumpIf c h rel) := by
  refine (readCond s c).congr ?_
  simp only [State.jumpIf]
  split <;> rfl

theorem setcc (c : Cond) (h : Head) (e : EOperand) (s : State) : ValidKept s (s.setcc c h e) :=
  ((of_same (.loadAddress s .byte h (.memory e))).trans (readCond _ c)).congr (by simp [State.setcc])

theorem portIn (w : Width) (h : Head) (p : Operand) (s : State) : ValidKept s (s.portIn w h p) := by
  unfold State.portIn
  split
  · exact of_flags rfl
  · exact of_flags (by simp)

theorem portOut (w : Width) (h : Head) (p : Operand) (s : State) : ValidKept s (s.portOut w h p) := by
  unfold State.portOut
  split
  · exact of_flags rfl
  · exact of_flags (by simp)

/-- `deliver` ends the run, or goes on with a valid engine: it takes over no other (log 15). -/
theorem deliver (s : State) (e : Event) : ValidKept s (s.deliver e) := by
  obtain hd | ⟨x, -, -, hd⟩ := s.deliver_cases e
  · rw [hd]
    exact of_flags (s.stopRun_flags e)
  · intro hs
    rw [hd, State.resume_flags]
    split
    · assumption
    · exact hs

end ValidKept

/-- An instruction that raises no event keeps the invariant: it reads flags, and writes them with sound actions. -/
theorem Ran.validKept {s t : State} (h : Ran s t) : ValidKept s t := by
  cases h with
  | binary op w h d x => exact .binary op w h d x s
  | test w h x y =>
    exact .trans (.of_same ((Same.loadValue s w h x).trans (.loadValue _ w h y)))
      (.finish (logicActions_sound w _) _ h.len)
  | unary op w h d => exact .trans (.of_flags (by simp)) (.finish (op.actions_sound w _) _ h.len)
  | mul w h e => exact .pair (mulActions_sound rfl rfl) w h e _ _ _ _ s
  | imul w h e => exact .pair (mulActions_sound rfl rfl) w h e _ _ _ _ s
  | divided w h e r q => exact .pair allUndefined_sound w h e _ _ r q s
  | imul2 w h r e => exact .trans (.of_flags (by simp)) (.finish (mulActions_sound rfl rfl) _ h.len)
  | imul3 w h r e x => exact .trans (.of_flags (by simp)) (.finish (mulActions_sound rfl rfl) _ h.len)
  | shift op w h e n => exact .shift op w h e n s
  | clc h => exact .finish (carryActions_sound false) s h.len
  | stc h => exact .finish (carryActions_sound true) s h.len
  | cmc h => exact .trans (.readFlag s .cf) (.finish (carryActions_sound _) _ h.len)
  | lahf h => exact .lahf h s
  | sahf h => exact .trans (.of_same (.loadValue s .byte h _)) (.finish (sahfActions_sound _) _ h.len)
  | jumpShort c h v => exact .trans (.of_same (.loadValue s .dword h _)) (.jumpIf c h _ _)
  | jumpNear c h v => exact .trans (.of_same (.loadValue s _ h _)) (.jumpIf c h _ _)
  | setcc c h e => exact .setcc c h e s
  | portIn w h p => exact .portIn w h p s
  | portOut w h p => exact .portOut w h p s
  | intoNot h => exact .readFlag s .of

/-- An instruction that raises an event has read a flag at most. -/
theorem Raised.validKept {s u : State} {e : Event} (h : Raised s u e) : ValidKept s u := by
  cases h with
  | divide w h e => exact .of_same (.loadImplicit s w h e _ _)
  | undefinedOpcode | int3 => exact .of_flags rfl
  | intN h v => exact .congr (.of_same (.loadValue s .byte h _)) rfl
  | into h => exact .readFlag s .of

/-- Settles O25: a step reads flags, writes them with sound actions and delivers at most, all of which keep the
invariant. -/
theorem engineInvariantKept : Obligations.EngineInvariantKept := by
  refine ⟨by decide, fun s t hs h => ?_⟩
  have hfetch (n : Nat) : ValidKept s (s.takeOffer.afterFetch n) := .of_flags (State.afterFetch_flags s.takeOffer n)
  have hkept : ValidKept s t := by
    obtain ⟨-, ⟨-, rfl⟩ | ⟨-, hcase⟩⟩ := step_next h
    · exact .of_flags rfl
    · obtain ⟨v, -, rfl⟩ | ⟨n, hr⟩ | ⟨n, u, e, hr, rfl⟩ | ⟨n, r, rfl⟩ | ⟨n, r, rfl⟩ := hcase
      · exact ValidKept.deliver s.takeOffer _
      · exact (hfetch n).trans hr.validKept
      · exact ((hfetch n).trans hr.validKept).trans (.deliver u e)
      · exact (hfetch n).congr rfl
      · exact (hfetch n).congr rfl
  exact hkept hs

end Sys2Proof.Machine
end

section
/-!
SUPPORT. The truth tables of the add, subtract, multiply and value tags (40_flag_engine R411-R415, R418) as conditions
on the integers that the operands stand for.
-/
namespace Sys2Proof.Machine

/-! ### Carries and ranges of numbers -/

/-- Bit `n` of a sum that fits in `n + 1` bits is its carry out (40_flag_engine R411). -/
theorem and_two_pow_bne_zero {x n : Nat} (hx : x < 2 ^ (n + 1)) : ((x &&& 2 ^ n) != 0) = decide (2 ^ n ≤ x) := by
  rw [Nat.and_two_pow]
  by_cases hn : 2 ^ n ≤ x
  · simp [Nat.testBit_of_two_pow_le_and_two_pow_add_one_gt hn hx, hn]
  · simp [Nat.testBit_lt_two_pow (Nat.lt_of_not_le hn), hn]

/-- What lies above the low `n` bits is 0 exactly below `2^n` (40_flag_engine R414). -/
theorem shiftRight_bne_zero (x n : Nat) : ((x >>> n) != 0) = decide (2 ^ n ≤ x) := by
  rw [Bool.eq_iff_iff, bne_iff_ne, decide_eq_true_iff, Nat.shiftRight_eq_div_pow, Nat.div_ne_zero_iff]
  exact and_iff_right (Nat.two_pow_pos n).ne'

/-- The two spellings of the signed range: up to `2^(n-1) - 1`, and below `2^(n-1)` (40_flag_engine R411). -/
theorem outsideSigned_eq_overflows (w : Width) (x : Int) : outsideSigned w.bits x = overflows w x := by
  simp only [outsideSigned, overflows, Bool.not_and, ← decide_not, Int.not_le, Int.sub_one_lt_iff]

theorem bitNat_eq_toNat (c : Bool) : bitNat c = c.toNat := by cases c <;> rfl

/-- The parity of a count of ones is that of their sum (40_flag_engine R418). -/
theorem countP_eq_sum_toNat (p : Nat → Bool) (L : List Nat) : L.countP p = (L.map fun i => (p i).toNat).sum := by
  induction L with
  | nil => rfl
  | cons i L ih => rw [List.countP_cons, ih, List.map_cons, List.sum_cons, Nat.add_comm]; cases p i <;> rfl

/-! ### The tables -/

section Tables

variable (w : Width) (a b r : BitVec w.bits) (c : Bool)

/-- The carry out of a sum with a carry-in (40_flag_engine R411, R412). -/
theorem carryOut_eq : (((a.toNat + b.toNat + c.toNat) &&& 2 ^ w.bits) != 0) =
    decide (2 ^ w.bits ≤ a.toNat + b.toNat + c.toNat) := by
  refine and_two_pow_bne_zero ?_
  have ha := a.isLt
  have hb := b.isLt
  have hc := c.toNat_le
  omega

theorem evalCF_add : evalCF (.add w a b) = some (decide (2 ^ w.bits ≤ a.toNat + b.toNat)) :=
  congrArg some (carryOut_eq w a b false)

theorem evalCF_adc : evalCF (.adc w a b c) = some (decide (2 ^ w.bits ≤ a.toNat + b.toNat + c.toNat)) := by
  rw [evalCF, bitNat_eq_toNat, carryOut_eq]

theorem evalCF_sub : evalCF (.sub w a b) = some (decide (a.toNat < b.toNat)) := by
  rw [evalCF, Option.some_inj, decide_eq_decide]
  omega

theorem evalCF_sbb : evalCF (.sbb w a b c) = some (decide (a.toNat < b.toNat + c.toNat)) := by
  rw [evalCF, Option.some_inj, decide_eq_decide, bitNat_eq_toNat]
  omega

/-- The flags of a result are its top bit, whether it is zero, and its even parity (40_flag_engine R418). -/
theorem evalFlag_value : evalFlag .sf (.value w r) = some (r.getLsbD (w.bits - 1)) ∧
    evalFlag .zf (.value w r) = some (decide (r.toNat = 0)) ∧
    evalFlag .pf (.value w r) =
      some (decide ((((List.range 8).map fun i => (r.getLsbD i).toNat).sum) % 2 = 0)) := by
  refine ⟨rfl, congrArg some ?_, congrArg some ?_⟩
  · rw [Bool.eq_iff_iff, beq_iff_eq, decide_eq_true_iff, ← BitVec.toNat_inj, BitVec.toNat_ofNat, Nat.zero_mod]
  · rw [← countP_eq_sum_toNat]
    rfl

end Tables

/-- Settles O19: a carry out is bit `n` of the sum, a borrow its sign, and the signed range is that of the product or
sum over the integers. -/
theorem truthTablesArithmetic : Obligations.TruthTablesArithmetic := by
  intro w a b r c
  have hrange (x : Int) : some (outsideSigned w.bits x) = some (overflows w x) :=
    congrArg some (outsideSigned_eq_overflows w x)
  have hhigh : some (((a.toNat * b.toNat) >>> w.bits) != 0) = some (decide (2 ^ w.bits ≤ a.toNat * b.toNat)) :=
    congrArg some (shiftRight_bne_zero _ _)
  refine ⟨⟨evalCF_add w a b, rfl, hrange _⟩, ⟨evalCF_adc w a b c, ?adc⟩, ⟨evalCF_sub w a b, rfl, hrange _⟩,
    ⟨evalCF_sbb w a b c, ?sbb⟩, ⟨hhigh, hhigh⟩, ⟨hrange _, hrange _⟩, ⟨hrange _, hrange _⟩, evalFlag_value w r⟩
  case adc | sbb =>
    rw [← bitNat_eq_toNat]
    exact ⟨rfl, hrange _⟩

end Sys2Proof.Machine
end

section
/-!
SUPPORT. The statements about the two-operand operations and TEST (41_alu_binary): each row runs `exec_binary` or TEST
on the operands of its form, and the flags written have the values of the truth tables.
-/
namespace Sys2Proof.Machine

/-! ### Flags after a write -/

theorem FlagActions.sound.oneTag {a : FlagActions} (ha : a.sound) : a.oneTag := fun f t h => (ha f t h).1

/-- An instruction that ends in `write flags`, from a state whose flags read as before it, wrote those flags. -/
theorem Wrote.of_writeFlags {a : FlagActions} {s t : State} (ha : a.sound)
    (h : ∃ u : State, (∀ f, u.flag f = s.flag f) ∧ t.flags = (u.writeFlags a).flags) : Wrote a s t := by
  obtain ⟨u, hu, ht⟩ := h
  exact (u.writeFlags_wrote ha.oneTag).congr (fun f => (hu f).symm) ht

section Flags

variable {w : Width} {r : BitVec w.bits} {s t : State}

/-- SF, ZF and PF pend on the result (40_flag_engine R418). -/
theorem Wrote.resultFlags {c a o : FlagAction} (h : Wrote (resultActions w r c a o) s t) : ResultFlags w r t where
  sf := h.lazy_flag rfl rfl
  zf := h.lazy_flag rfl rfl
  pf := h.lazy_flag rfl rfl

/-- The flags of an operation whose tag defines CF, AF and OF (41_alu_binary R510). -/
theorem Wrote.tagFlags {x : Tag} {cf af of : Bool} (h : Wrote (tagActions w x r) s t)
    (hx : evalFlag .cf x = some cf ∧ evalFlag .af x = some af ∧ evalFlag .of x = some of) :
    ResultFlags w r t ∧ CarryFlags cf af of t := by
  obtain ⟨hcf, haf, hof⟩ := hx
  exact ⟨h.resultFlags, h.lazy_flag rfl hcf, h.lazy_flag rfl haf, h.lazy_flag rfl hof⟩

/-- The flags of a logic operation (41_alu_binary R511). -/
theorem Wrote.logicFlags (h : Wrote (logicActions w r) s t) :
    t.flag .cf = false ∧ t.flag .of = false ∧ ResultFlags w r t :=
  ⟨h.explicit_flag rfl, h.explicit_flag rfl, h.resultFlags⟩

end Flags

/-! ### The rows of a form -/

/-- The row of an operation in a form is `exec_binary` on the operands of the form (41_alu_binary R500, R501). -/
theorem BinaryForm.exec_instr (f : BinaryForm) (op : BinOp) (s : State) :
    exec (f.instr op) s = .next (s.binary op f.width f.head f.dest f.source) := by
  cases op <;> cases f <;> rfl

/-- No form has two `r/m` operands (30_encoding R345). -/
theorem BinaryForm.oneRm_dest_source (f : BinaryForm) : oneRm f.dest f.source := by
  cases f with
  | gbEb h r e | gvEv h r e => exact .inl ⟨r, rfl⟩
  | alIb h v | eaxIz h v => exact .inr (.inl ⟨.ax, rfl⟩)
  | ebGb | evGv | ebIb | evIz | evIb | ebIb82 => exact .inr (.inr rfl)

/-- The row of TEST in a form is TEST on the operands of the form (41_alu_binary R518). -/
theorem TestForm.exec_instr (f : TestForm) (s : State) :
    exec f.instr s = .next (s.test f.width f.head f.first f.second) := by
  cases f <;> rfl

/-- The second operand of TEST is a register or an immediate (41_alu_binary R518). -/
theorem TestForm.second_isRm (f : TestForm) : f.second.isRm = false := by
  cases f <;> rfl

/-! ### What an operation in a form does -/

/-- The carry-in of an operation: CF before it, false where the operation takes none (40_flag_engine R441). -/
def BinOp.carry (op : BinOp) (s : State) : Bool := op.readsCarry && s.flag .cf

/-- The result of an operation on the operands of a form (41_alu_binary R501). -/
def BinaryForm.result (f : BinaryForm) (op : BinOp) (s : State) : BitVec f.width.bits :=
  op.result f.width (f.left s) (f.right s) (op.carry s)

/-- The flag actions of an operation on the operands of a form (41_alu_binary R501). -/
def BinaryForm.actions (f : BinaryForm) (op : BinOp) (s : State) : FlagActions :=
  op.actions f.width (f.left s) (f.right s) (op.carry s)

section Operation

variable (f : BinaryForm) (op : BinOp) (s : State)

/-- The result of ADC, the carry-in as a number (41_alu_binary R512). -/
theorem BinaryForm.result_adc :
    f.result .adc s = f.left s + f.right s + BitVec.ofNat f.width.bits (s.flag .cf).toNat :=
  congrArg (fun n => f.left s + f.right s + BitVec.ofNat f.width.bits n) (bitNat_eq_toNat _)

/-- The result of SBB, the carry-in as a number (41_alu_binary R513). -/
theorem BinaryForm.result_sbb :
    f.result .sbb s = f.left s - f.right s - BitVec.ofNat f.width.bits (s.flag .cf).toNat :=
  congrArg (fun n => f.left s - f.right s - BitVec.ofNat f.width.bits n) (bitNat_eq_toNat _)

theorem BinaryForm.actions_sound : (f.actions op s).sound := op.actions_sound _ _ _ _

/-- Every operation but CMP stores its result and writes its flags (41_alu_binary R501). -/
theorem BinaryForm.exec_stores (hop : op.stores = true) :
    ∃ t, exec (f.instr op) s = .next t ∧ f.Stores (f.result op s) s t ∧ Wrote (f.actions op s) s t := by
  obtain ⟨hdone, hstored, hcalls, hflags⟩ := s.binary_spec op f.width f.head f.dest f.source f.oneRm_dest_source
  rw [if_pos hop] at hstored hcalls
  exact ⟨_, f.exec_instr op s, ⟨hdone, hstored, hcalls⟩, .of_writeFlags (f.actions_sound op s) hflags⟩

/-- CMP stores nothing and writes its flags (41_alu_binary R501, R517). -/
theorem BinaryForm.exec_compares (hop : op.stores = false) :
    ∃ t, exec (f.instr op) s = .next t ∧ f.Compares s t ∧ Wrote (f.actions op s) s t := by
  obtain ⟨hdone, hstored, hcalls, hflags⟩ := s.binary_spec op f.width f.head f.dest f.source f.oneRm_dest_source
  simp only [hop, Bool.false_eq_true, if_false, List.nil_append] at hstored hcalls
  exact ⟨_, f.exec_instr op s, ⟨hdone, hstored, hcalls⟩, .of_writeFlags (f.actions_sound op s) hflags⟩

/-- An operation whose flags pend on a tag and on its result (41_alu_binary R510, R512, R513, R515). -/
theorem BinaryForm.exec_tag (hop : op.stores = true) {x : Tag} {cf af of : Bool}
    (hact : f.actions op s = tagActions f.width x (f.result op s))
    (hx : evalFlag .cf x = some cf ∧ evalFlag .af x = some af ∧ evalFlag .of x = some of) :
    ∃ t, exec (f.instr op) s = .next t ∧ f.Stores (f.result op s) s t ∧
      Wrote (tagActions f.width x (f.result op s)) s t ∧
      ResultFlags f.width (f.result op s) t ∧ CarryFlags cf af of t := by
  obtain ⟨t, ht, hst, hw⟩ := f.exec_stores op s hop
  rw [hact] at hw
  exact ⟨t, ht, hst, hw, hw.tagFlags hx⟩

/-- An operation whose flags are those of a logic operation (41_alu_binary R511, R514, R516). -/
theorem BinaryForm.exec_logic (hop : op.stores = true)
    (hact : f.actions op s = logicActions f.width (f.result op s)) :
    ∃ t, exec (f.instr op) s = .next t ∧ f.Stores (f.result op s) s t ∧
      Wrote (logicActions f.width (f.result op s)) s t ∧
      t.flag .cf = false ∧ t.flag .of = false ∧ ResultFlags f.width (f.result op s) t := by
  obtain ⟨t, ht, hst, hw⟩ := f.exec_stores op s hop
  rw [hact] at hw
  exact ⟨t, ht, hst, hw, hw.logicFlags⟩

end Operation

/-! ### The operations -/

/-- Settles O31: the sum is stored, and its flags pend on `Add(a, b)` and on the sum. -/
theorem addResult : Obligations.AddResult := by
  intro f s a b r
  obtain ⟨hadd, -⟩ := truthTablesArithmetic f.width a b r false
  exact f.exec_tag .add s rfl rfl hadd

/-- Settles O32: the sum with the carry is stored, and its flags pend on `Adc(a, b, c)` and on the sum. -/
theorem adcResult : Obligations.AdcResult := by
  intro f s a b c r
  obtain ⟨-, hadc, -⟩ := truthTablesArithmetic f.width a b r c
  have hrow := f.exec_tag .adc s rfl rfl hadc
  rw [f.result_adc] at hrow
  exact hrow

/-- Settles O33: the difference is stored, and its flags pend on `Sub(a, b)` and on the difference. -/
theorem subResult : Obligations.SubResult := by
  intro f s a b r
  obtain ⟨-, -, hsub, -⟩ := truthTablesArithmetic f.width a b r false
  exact f.exec_tag .sub s rfl rfl hsub

/-- Settles O34: the difference less the borrow is stored, and its flags pend on `Sbb(a, b, c)` and on that. -/
theorem sbbResult : Obligations.SbbResult := by
  intro f s a b c r
  obtain ⟨-, -, -, hsbb, -⟩ := truthTablesArithmetic f.width a b r c
  have hrow := f.exec_tag .sbb s rfl rfl hsbb
  rw [f.result_sbb] at hrow
  exact hrow

/-- Settles O35: nothing is stored, and the flags are those of SUB. -/
theorem cmpResult : Obligations.CmpResult := by
  intro f s a b r
  obtain ⟨t, ht, hcmp, hw⟩ := f.exec_compares .cmp s rfl
  obtain ⟨-, -, hsub, -⟩ := truthTablesArithmetic f.width a b r false
  exact ⟨t, ht, hcmp, hw, Wrote.tagFlags hw hsub⟩

/-- Settles O36: the three operations store a bitwise result and write the flags of a logic operation. -/
theorem logicResult : Obligations.LogicResult := fun f s =>
  ⟨f.exec_logic .or s rfl rfl, f.exec_logic .and s rfl rfl, f.exec_logic .xor s rfl rfl⟩

/-- Settles O37: nothing is stored, and the flags are those of AND. -/
theorem testResult : Obligations.TestResult := by
  intro f s r
  obtain ⟨hdone, hstored, hcalls, hflags⟩ := s.test_spec f.width f.head f.first f.second f.second_isRm
  have hw : Wrote (logicActions f.width r) s (s.test f.width f.head f.first f.second) :=
    .of_writeFlags (logicActions_sound f.width r) hflags
  exact ⟨_, f.exec_instr s, hdone, hstored, hcalls, hw, hw.logicFlags⟩

end Sys2Proof.Machine
end

section
/-!
SUPPORT. The statements about INC, DEC, NEG and NOT (42_alu_unary): each row runs `State.unary` on the operand of its
form, and the truth tables at the constants 1 and 0 give the flags by the operand alone.
-/
namespace Sys2Proof.Machine

/-! ### Overflow and carry at a constant operand -/

/-- One of the low `k` bits is set exactly when the remainder modulo `2^k` is not 0. -/
theorem exists_lt_getLsbD_iff {n : Nat} (x : BitVec n) (k : Nat) :
    (∃ j < k, x.getLsbD j = true) ↔ x.toNat % 2 ^ k ≠ 0 := by
  have hbit (j : Nat) : (x.toNat % 2 ^ k).testBit j = true ↔ j < k ∧ x.getLsbD j = true := by
    rw [Nat.testBit_mod_two_pow, Bool.and_eq_true, decide_eq_true_iff]
    rfl
  simp only [← hbit]
  constructor
  · rintro ⟨j, hj⟩ h0
    rw [h0, Nat.zero_testBit] at hj
    cases hj
  · exact Nat.exists_testBit_of_ne_zero

section Constants

variable (w : Width) (a : BitVec w.bits)

/-- The two's complement value by halves: the operand itself below `2^(n-1)`, and `2^n` less from there on. -/
theorem toInt_cases : (a.toNat < 2 ^ (w.bits - 1) ∧ a.toInt = a.toNat) ∨
    (2 ^ (w.bits - 1) ≤ a.toNat ∧ a.toNat < 2 * 2 ^ (w.bits - 1) ∧
      a.toInt = a.toNat - 2 * (2 ^ (w.bits - 1) : Nat)) := by
  have htop : 2 * 2 ^ (w.bits - 1) = 2 ^ w.bits := mul_pow_sub_one (by cases w <;> decide) 2
  have hlt := a.isLt
  rw [← htop] at hlt
  rw [a.toInt_eq_toNat_cond, ← htop]
  split <;> omega

theorem toInt_one_bits : (1#w.bits).toInt = 1 := BitVec.toInt_one (by cases w <;> decide)

/-- The signed range (40_flag_engine R411), its bound a natural number. -/
theorem overflows_iff (x : Int) :
    overflows w x = true ↔ x < -(2 ^ (w.bits - 1) : Nat) ∨ (2 ^ (w.bits - 1) : Nat) ≤ x := by
  rw [overflows, Bool.or_eq_true, decide_eq_true_iff, decide_eq_true_iff, Nat.cast_pow, Nat.cast_ofNat]

/-- The one step up that leaves the signed range is from its largest value (42_alu_unary R610). -/
theorem overflows_add_one : overflows w (a.toInt + (1#w.bits).toInt) = decide (a.toNat = 2 ^ (w.bits - 1) - 1) := by
  have ha := toInt_cases w a
  rw [toInt_one_bits, Bool.eq_iff_iff, overflows_iff, decide_eq_true_iff]
  omega

/-- The one step down that leaves the signed range is from its smallest value (42_alu_unary R611). -/
theorem overflows_sub_one : overflows w (a.toInt - (1#w.bits).toInt) = decide (a.toNat = 2 ^ (w.bits - 1)) := by
  have ha := toInt_cases w a
  rw [toInt_one_bits, Bool.eq_iff_iff, overflows_iff, decide_eq_true_iff]
  omega

/-- The one value whose negative leaves the signed range is the smallest (42_alu_unary R612). -/
theorem overflows_zero_sub : overflows w ((0#w.bits).toInt - a.toInt) = decide (a.toNat = 2 ^ (w.bits - 1)) := by
  have ha := toInt_cases w a
  rw [BitVec.toInt_zero, Bool.eq_iff_iff, overflows_iff, decide_eq_true_iff]
  omega

/-- A subtraction from 0 borrows at bit 4 exactly when one of the four bits below it is set (42_alu_unary R612). -/
theorem carryAt4_zero_sub : carryAt4 w 0#w.bits a (0#w.bits - a) = decide (a.toNat % 16 ≠ 0) := by
  have hbits : 4 < w.bits := by cases w <;> decide
  have hlow : (∃ j < 4, a.getLsbD j = true) ↔ a.toNat % 16 ≠ 0 := exists_lt_getLsbD_iff a 4
  simp only [carryAt4, BitVec.zero_xor, BitVec.zero_sub, BitVec.getLsbD_xor, BitVec.getLsbD_neg, hbits, hlow,
    ← Bool.xor_assoc, Bool.xor_self, Bool.false_xor, decide_true, Bool.true_and]

/-- The carry out of a subtraction from 0 (42_alu_unary R612). -/
theorem decide_zero_lt_toNat : decide ((0#w.bits).toNat < a.toNat) = decide (a.toNat ≠ 0) := by
  rw [BitVec.toNat_ofNat, Nat.zero_mod, decide_eq_decide, Nat.pos_iff_ne_zero]

end Constants

/-! ### Flags after a unary operation -/

/-- The flags of INC and DEC: CF is kept (42_alu_unary R610, R611). -/
theorem Wrote.countFlags {w : Width} {r : BitVec w.bits} {s t : State} {x : Tag} {af of : Bool}
    (h : Wrote (resultActions w r .keep (.lazy x) (.lazy x)) s t) (haf : evalFlag .af x = some af)
    (hof : evalFlag .of x = some of) : ResultFlags w r t ∧ CarryFlags (s.flag .cf) af of t :=
  ⟨h.resultFlags, h.keep_flag rfl, h.lazy_flag rfl haf, h.lazy_flag rfl hof⟩

/-- A unary operation stores its result and writes its flags (42_alu_unary R600). -/
theorem State.unary_wrote (op : UnOp) (w : Width) (h : Head) (d : Dest) (s : State) :
    ReadModifyWrite h w (s.destLoc h d) (op.result w (s.locValue w (s.destLoc h d))) s (s.unary op w h d) ∧
      Wrote (op.actions w (s.locValue w (s.destLoc h d))) s (s.unary op w h d) := by
  obtain ⟨hrmw, hflags⟩ := s.unary_spec op w h d
  exact ⟨hrmw, .of_writeFlags (op.actions_sound w _) hflags⟩

/-- Where every flag is kept, `write flags` updates no group (40_flag_engine R440). -/
theorem State.writeFlags_keepAll (s : State) : s.writeFlags {} = s := rfl

/-- NOT touches no slot of the flag engine (42_alu_unary R613). -/
theorem State.unary_not_flags (w : Width) (h : Head) (d : Dest) (s : State) : (s.unary .not w h d).flags = s.flags := by
  simp only [State.unary, UnOp.actions, State.writeFlags_keepAll, State.advance_flags, State.storeLoc_flags,
    State.loadLoc_flags, State.loadAddress_flags]

/-! ### The rows of a form -/

theorem CountForm.exec_incRow (f : CountForm) (s : State) :
    exec f.incRow s = .next (s.unary .inc f.width f.head f.dest) := by
  cases f <;> rfl

theorem CountForm.exec_decRow (f : CountForm) (s : State) :
    exec f.decRow s = .next (s.unary .dec f.width f.head f.dest) := by
  cases f <;> rfl

theorem GroupForm.exec_negRow (f : GroupForm) (s : State) :
    exec f.negRow s = .next (s.unary .neg f.width f.head (.memory f.operand)) := by
  cases f <;> rfl

theorem GroupForm.exec_notRow (f : GroupForm) (s : State) :
    exec f.notRow s = .next (s.unary .not f.width f.head (.memory f.operand)) := by
  cases f <;> rfl

/-! ### The operations -/

/-- Settles O38: the flags pend on `Add(a, 1)` and `Sub(a, 1)`, and CF is kept. -/
theorem incDecResult : Obligations.IncDecResult := by
  intro f s a
  obtain ⟨⟨-, haddAf, haddOf⟩, -, ⟨-, hsubAf, hsubOf⟩, -⟩ :=
    truthTablesArithmetic f.width a 1#f.width.bits 0#f.width.bits false
  rw [overflows_add_one] at haddOf
  rw [overflows_sub_one] at hsubOf
  obtain ⟨hinc, hincFlags⟩ := s.unary_wrote .inc f.width f.head f.dest
  obtain ⟨hdec, hdecFlags⟩ := s.unary_wrote .dec f.width f.head f.dest
  exact ⟨⟨_, f.exec_incRow s, hinc, hincFlags, Wrote.countFlags hincFlags haddAf haddOf⟩,
    ⟨_, f.exec_decRow s, hdec, hdecFlags, Wrote.countFlags hdecFlags hsubAf hsubOf⟩⟩

/-- Settles O39: the flags pend on `Sub(0, a)`, whose truth table depends on the operand alone. -/
theorem negResult : Obligations.NegResult := by
  intro f s a r
  obtain ⟨-, -, hsub, -⟩ := truthTablesArithmetic f.width 0#f.width.bits a r false
  rw [decide_zero_lt_toNat, carryAt4_zero_sub, overflows_zero_sub] at hsub
  obtain ⟨hneg, hflags⟩ := s.unary_wrote .neg f.width f.head (.memory f.operand)
  exact ⟨_, f.exec_negRow s, hneg, hflags, Wrote.tagFlags hflags hsub⟩

/-- Settles O40: the inverted operand is stored, and the flag engine is that of the state before. -/
theorem notResult : Obligations.NotResult := by
  intro f s
  obtain ⟨hnot, -⟩ := s.unary_wrote .not f.width f.head (.memory f.operand)
  exact ⟨_, f.exec_notRow s, hnot, s.unary_not_flags _ _ _⟩

end Sys2Proof.Machine
end

section
/-!
SUPPORT. The statements about multiply and divide (43_muldiv): a register pair `AX`, `DX:AX` or `EDX:EAX` holds the
number that its two halves give, and each row runs MUL, IMUL, DIV or IDIV on the operands of its form.
-/
namespace Sys2Proof.Machine

/-! ### Register pairs -/

/-- A byte written to `AL` and one to `AH` are a word written to `AX` (10_state R103). -/
theorem Gpr.write_al_ah (g : Gpr) (hi lo : BitVec 8) :
    (g.write .byte .ax lo).write .byte .sp hi = g.write .word .ax (hi ++ lo : BitVec (8 + 8)) := by
  refine congrArg (g.set .ax) (?_ : withHighByte (withLowByte g.eax lo) hi = withLowWord g.eax (hi ++ lo))
  refine BitVec.eq_of_getLsbD_eq fun i _ => ?_
  rw [getLsbD_withHighByte, getLsbD_withLowByte, getLsbD_withLowWord, BitVec.getLsbD_append]
  by_cases hlow : i < 8
  · simp [hlow, Nat.not_le.mpr hlow, show i < 16 by omega]
  · simp [hlow, Nat.le_of_not_lt hlow]

/-- `AH` and `AL` are the halves of `AX` (10_state R103). -/
theorem Gpr.read_ah_append_al (g : Gpr) : (g.read .byte .sp ++ g.read .byte .ax : BitVec (8 + 8)) = g.read .word .ax :=
  BitVec.extractLsb'_append_extractLsb'_eq_extractLsb' rfl

/-- The halves of a product are placed as the spec places the product (43_muldiv R700, R710). -/
theorem writeHalves_eq_storeProduct (w : Width) (p : BitVec (w.bits + w.bits)) (g : Gpr) :
    (g.write w .ax (lowOf w p)).write w (highHalf w) (highOf w p) = storeProduct w p.toNat g := by
  have hhigh : highOf w p = BitVec.ofNat w.bits (p.toNat / 2 ^ w.bits) :=
    congrArg (BitVec.ofNat w.bits) (Nat.shiftRight_eq_div_pow _ _)
  cases w with
  | byte =>
    have hword : (highOf .byte p ++ lowOf .byte p : BitVec (8 + 8)) = BitVec.ofNat 16 p.toNat :=
      (append_halves16 p).trans ((BitVec.ofNat_toNat 16 p).trans (BitVec.setWidth_eq p)).symm
    exact (g.write_al_ah _ _).trans (congrArg (g.write .word .ax) hword)
  | word | dword =>
    rw [hhigh]
    rfl

/-- The quotient goes to the low half and the remainder to the high one (43_muldiv R700, R720). -/
theorem writeHalves_eq_storeQuotient (w : Width) (q r : Int) (g : Gpr) :
    (g.write w .ax (BitVec.ofInt w.bits q)).write w (highHalf w) (BitVec.ofInt w.bits r) = storeQuotient w q r g := by
  cases w <;> rfl

/-- The dividend as a number (43_muldiv R720). -/
theorem State.readPair_toNat (w : Width) (s : State) : (s.readPair w).toNat = dividendOf w s.gpr := by
  have hpair : (s.readPair w).toNat = (s.readReg w (highHalf w)).toNat * 2 ^ w.bits + (s.readReg w .ax).toNat := by
    rw [State.readPair, BitVec.toNat_append, ← Nat.shiftLeft_add_eq_or_of_lt (BitVec.isLt _), Nat.shiftLeft_eq]
  cases w with
  | byte => exact congrArg BitVec.toNat s.gpr.read_ah_append_al
  | word | dword => exact hpair

/-- The dividend as a signed integer (43_muldiv R721). -/
theorem State.readPair_toInt (w : Width) (s : State) : (s.readPair w).toInt = signedDividendOf w s.gpr := by
  have htop : 2 * 2 ^ (2 * w.bits - 1) = 2 ^ (2 * w.bits) := mul_pow_sub_one (by cases w <;> decide) 2
  have hhalf : 2 * dividendOf w s.gpr < 2 ^ (2 * w.bits) ↔ dividendOf w s.gpr < 2 ^ (2 * w.bits - 1) := by omega
  rw [BitVec.toInt_eq_toNat_cond, s.readPair_toNat, ← two_mul, signedDividendOf]
  simp only [hhalf, Nat.cast_pow, Nat.cast_ofNat]

/-- A product of two operands fits in a register pair (43_muldiv R710). -/
theorem toNat_ofNat_mul (w : Width) (a b : BitVec w.bits) :
    (BitVec.ofNat (w.bits + w.bits) (a.toNat * b.toNat)).toNat = a.toNat * b.toNat := by
  rw [BitVec.toNat_ofNat, Nat.mod_eq_of_lt]
  rw [pow_add]
  exact Nat.mul_lt_mul'' a.isLt b.isLt

/-! ### What a division can answer -/

/-- An operand is 0 as a signed integer exactly when it is 0. -/
theorem toInt_eq_zero_iff (w : Width) (b : BitVec w.bits) : b.toInt = 0 ↔ b.toNat = 0 := by
  have hb := toInt_cases w b
  omega

/-- The signed range by its two ends (43_muldiv R721). -/
theorem outsideSigned_iff (n : Nat) (x : Int) :
    outsideSigned n x = true ↔ x < -(2 ^ (n - 1)) ∨ 2 ^ (n - 1) - 1 < x := by
  simp only [outsideSigned, Bool.not_and, Bool.or_eq_true, Bool.not_eq_true', decide_eq_false_iff_not, not_le]

section Division

variable {w : Width} {d : BitVec (w.bits + w.bits)} {b : BitVec w.bits}

theorem divide_of_fits (hb : b.toNat ≠ 0) (hq : d.toNat / b.toNat < 2 ^ w.bits) :
    divide w d b = some (BitVec.ofNat w.bits (d.toNat / b.toNat), BitVec.ofNat w.bits (d.toNat % b.toNat)) := by
  rw [divide, if_neg hb, if_neg hq.not_ge]

theorem divide_eq_none (h : b.toNat = 0 ∨ 2 ^ w.bits ≤ d.toNat / b.toNat) : divide w d b = none := by
  unfold divide
  split
  case isTrue => rfl
  case isFalse hb => rw [if_pos (h.resolve_left hb)]

theorem divideSigned_of_fits (hb : b.toInt ≠ 0) (hlow : -(2 ^ (w.bits - 1)) ≤ d.toInt.tdiv b.toInt)
    (hhigh : d.toInt.tdiv b.toInt ≤ 2 ^ (w.bits - 1) - 1) :
    divideSigned w d b =
      some (BitVec.ofInt w.bits (d.toInt.tdiv b.toInt), BitVec.ofInt w.bits (d.toInt.tmod b.toInt)) := by
  have hin : ¬outsideSigned w.bits (d.toInt.tdiv b.toInt) = true := by
    rw [outsideSigned_iff, not_or, not_lt, not_lt]
    exact ⟨hlow, hhigh⟩
  rw [divideSigned, if_neg (mt (toInt_eq_zero_iff w b).mpr hb), if_neg hin]

theorem divideSigned_eq_none (h : b.toInt = 0 ∨ d.toInt.tdiv b.toInt < -(2 ^ (w.bits - 1)) ∨
    2 ^ (w.bits - 1) - 1 < d.toInt.tdiv b.toInt) : divideSigned w d b = none := by
  rw [toInt_eq_zero_iff, ← outsideSigned_iff] at h
  unfold divideSigned
  split
  case isTrue => rfl
  case isFalse hb => rw [if_pos (h.resolve_left hb)]

end Division

/-! ### What a row in a form does -/

/-- CF and OF after a multiply (43_muldiv R710-R713). -/
theorem Wrote.mulFlags {x : Tag} {c : Bool} {s t : State} (h : Wrote (mulActions x) s t)
    (hx : evalFlag .cf x = some c ∧ evalFlag .of x = some c) : t.flag .cf = c ∧ t.flag .of = c :=
  ⟨h.lazy_flag rfl hx.1, h.lazy_flag rfl hx.2⟩

/-- The flags of IMUL with two or three operands (43_muldiv R712, R713). -/
theorem Wrote.imul23Flags {w : Width} {x y : BitVec w.bits} {s t : State}
    (h : ∃ u : State, (∀ f, u.flag f = s.flag f) ∧ t.flags = (u.writeFlags (mulActions (.imul23 w x y))).flags) :
    Wrote (mulActions (.imul23 w x y)) s t ∧ t.flag .cf = overflows w (x.toInt * y.toInt) ∧
      t.flag .of = overflows w (x.toInt * y.toInt) := by
  obtain ⟨-, -, -, -, -, -, himul23, -⟩ := truthTablesArithmetic w x y 0#_ false
  have hw : Wrote (mulActions (.imul23 w x y)) s t := .of_writeFlags (mulActions_sound rfl rfl) h
  exact ⟨hw, hw.mulFlags himul23⟩

section Rows

variable (f : GroupForm) (ds rs : List (Width × Reg)) (s : State)

/-- The state after the operands of a form are loaded (43_muldiv R701). -/
def GroupForm.loaded : State := (s.loadImplicit f.width f.head f.operand ds rs).2

/-- The state after the operands of a form are loaded, a register pair and the flags are written and `EIP` advances
(43_muldiv R701). -/
def GroupForm.placed (hi lo : BitVec f.width.bits) (act : FlagActions) : State :=
  (((f.loaded ds rs s).writePair f.width hi lo).writeFlags act).advance f.head.len

theorem GroupForm.placed_spec (hi lo : BitVec f.width.bits) {act : FlagActions} (hact : act.sound) :
    Completes f.head s (f.placed ds rs s hi lo act) ∧
      (f.placed ds rs s hi lo act).gpr = (s.gpr.write f.width .ax lo).write f.width (highHalf f.width) hi ∧
      MemoryKept s (f.placed ds rs s hi lo act) ∧
      (f.placed ds rs s hi lo act).busLog = s.readCalls f.width (f.loc s) ++ s.busLog ∧
      Wrote act s (f.placed ds rs s hi lo act) := by
  obtain ⟨hdone, hgpr, hmem, hcalls, hflags⟩ := State.pair_spec f.width f.head f.operand ds rs hi lo act s
  exact ⟨hdone, hgpr, State.byteAt_congr hmem, hcalls, .of_writeFlags hact hflags⟩

variable {f ds rs s}

/-- A row that places a product in a register pair (43_muldiv R710, R711). -/
theorem GroupForm.exec_product {i : Instr} {p : BitVec (f.width.bits + f.width.bits)} {x : Tag} {c : Bool}
    (hi : exec i s = .next (f.placed ds rs s (highOf f.width p) (lowOf f.width p) (mulActions x)))
    (hx : evalFlag .cf x = some c ∧ evalFlag .of x = some c) :
    ∃ t, exec i s = .next t ∧ Completes f.head s t ∧ t.gpr = storeProduct f.width p.toNat s.gpr ∧ MemoryKept s t ∧
      t.busLog = s.readCalls f.width (f.loc s) ++ s.busLog ∧ Wrote (mulActions x) s t ∧
      t.flag .cf = c ∧ t.flag .of = c := by
  have hsound : (mulActions x).sound :=
    mulActions_sound (Option.isSome_iff_exists.mpr ⟨c, hx.1⟩) (Option.isSome_iff_exists.mpr ⟨c, hx.2⟩)
  obtain ⟨hdone, hgpr, hmem, hcalls, hw⟩ := f.placed_spec ds rs s (highOf f.width p) (lowOf f.width p) hsound
  exact ⟨_, hi, hdone, hgpr.trans (writeHalves_eq_storeProduct _ p _), hmem, hcalls, hw, hw.mulFlags hx⟩

/-- A division that completes (43_muldiv R720, R721). -/
theorem GroupForm.exec_quotient {i : Instr} {q r : Int}
    (hi : exec i s = .next ((f.loaded ds rs s).finishDivide f.width f.head
      (some (BitVec.ofInt f.width.bits q, BitVec.ofInt f.width.bits r)))) :
    ∃ t, exec i s = .next t ∧ Completes f.head s t ∧ t.gpr = storeQuotient f.width q r s.gpr ∧ MemoryKept s t ∧
      t.busLog = s.readCalls f.width (f.loc s) ++ s.busLog ∧ Wrote allUndefined s t := by
  obtain ⟨hdone, hgpr, hrest⟩ := f.placed_spec ds rs s (BitVec.ofInt f.width.bits r) (BitVec.ofInt f.width.bits q)
    allUndefined_sound
  exact ⟨_, hi, hdone, hgpr.trans (writeHalves_eq_storeQuotient _ q r _), hrest⟩

/-- A division that raises `#DE` has loaded its operands (43_muldiv R722). -/
theorem GroupForm.exec_divideFault {i : Instr}
    (hi : exec i s = .next ((f.loaded ds rs s).finishDivide f.width f.head none)) :
    ∃ u, exec i s = .next (State.deliver (.fault 0#8) u) ∧ Untouched s u ∧ u.status = s.status ∧
      u.busLog = s.readCalls f.width (f.loc s) ++ s.busLog :=
  ⟨f.loaded ds rs s, hi, s.loadImplicit_untouched _ _ _ _ _, s.loadImplicit_status _ _ _ _ _,
    s.loadImplicit_busLog _ _ _ _ _⟩

variable (f s)

/-- MUL in a form (43_muldiv R710). -/
theorem GroupForm.exec_mulRow :
    let a := s.readReg f.width .ax
    let p := BitVec.ofNat (f.width.bits + f.width.bits) (a.toNat * (f.value s).toNat)
    exec f.mulRow s = .next (f.placed (productRegs f.width) [(f.width, .ax)] s (highOf f.width p) (lowOf f.width p)
      (mulActions (.mul f.width a (f.value s)))) := by
  have hrow : exec f.mulRow s = .next (s.mul f.width f.head f.operand) := by cases f <;> rfl
  exact hrow.trans (congrArg _ (s.mul_eq _ _ _))

/-- IMUL with one operand in a form (43_muldiv R711). -/
theorem GroupForm.exec_imulRow :
    let a := s.readReg f.width .ax
    let p := BitVec.ofInt (f.width.bits + f.width.bits) (a.toInt * (f.value s).toInt)
    exec f.imulRow s = .next (f.placed (productRegs f.width) [(f.width, .ax)] s (highOf f.width p) (lowOf f.width p)
      (mulActions (.imul f.width a (f.value s)))) := by
  have hrow : exec f.imulRow s = .next (s.imul f.width f.head f.operand) := by cases f <;> rfl
  exact hrow.trans (congrArg _ (s.imul_eq _ _ _))

/-- DIV in a form (43_muldiv R720). -/
theorem GroupForm.exec_divRow :
    exec f.divRow s =
      .next ((f.loaded (quotientRegs f.width) (productRegs f.width) s).finishDivide f.width f.head
        (divide f.width (s.readPair f.width) (f.value s))) := by
  have hrow : exec f.divRow s = .next (s.div f.width f.head f.operand) := by cases f <;> rfl
  exact hrow.trans (congrArg _ (s.div_eq _ _ _))

/-- IDIV in a form (43_muldiv R721). -/
theorem GroupForm.exec_idivRow :
    exec f.idivRow s =
      .next ((f.loaded (quotientRegs f.width) (productRegs f.width) s).finishDivide f.width f.head
        (divideSigned f.width (s.readPair f.width) (f.value s))) := by
  have hrow : exec f.idivRow s = .next (s.idiv f.width f.head f.operand) := by cases f <;> rfl
  exact hrow.trans (congrArg _ (s.idiv_eq _ _ _))

end Rows

/-! ### The operations -/

/-- Settles O41: the product fits in the register pair, and CF and OF pend on `Mul(a, b)`. -/
theorem mulResult : Obligations.MulResult := by
  intro f s a b
  obtain ⟨-, -, -, -, hmul, -⟩ := truthTablesArithmetic f.width a b 0#_ false
  have hrow := GroupForm.exec_product (f.exec_mulRow s) hmul
  rwa [toNat_ofNat_mul] at hrow

/-- Settles O42: the signed product is reduced to the register pair, and CF and OF pend on `IMul(a, b)`. -/
theorem imulResult : Obligations.ImulResult := by
  intro f s a b
  obtain ⟨-, -, -, -, -, himul, -⟩ := truthTablesArithmetic f.width a b 0#_ false
  have hrow := GroupForm.exec_product (f.exec_imulRow s) himul
  rw [BitVec.toNat_ofInt, ← two_mul, Nat.cast_pow] at hrow
  exact hrow

/-- Settles O43: CF and OF pend on `IMul23` of the factors, be they two operands or an operand and the immediate. -/
theorem imulTruncatedResult : Obligations.ImulTruncatedResult := by
  intro h r e iz ib s w b product
  have hthree (x : Operand) (hx : x.isRm = false) : product b (s.operandValue w h x) (s.imul3 w h r e x) := by
    obtain ⟨hdone, hstored, hcalls, hflags⟩ := s.imul3_spec w h r e x hx
    exact ⟨hdone, hstored, hcalls, Wrote.imul23Flags hflags⟩
  obtain ⟨hdone, hstored, hcalls, hflags⟩ := s.imul2_spec w h r e
  exact ⟨⟨_, rfl, hdone, hstored, hcalls, Wrote.imul23Flags hflags⟩, ⟨_, rfl, hthree (.immZ iz false) rfl⟩,
    ⟨_, rfl, hthree (.imm8 ib true) rfl⟩⟩

/-- Settles O44: a quotient below `2^n` is placed with its remainder. -/
theorem divCompletes : Obligations.DivCompletes := by
  intro f s b d hb hq
  have hrow := f.exec_divRow s
  have hd : (s.readPair f.width).toNat = d := s.readPair_toNat f.width
  rw [← hd] at hq
  rw [divide_of_fits hb hq, hd, ← BitVec.ofInt_natCast, ← BitVec.ofInt_natCast] at hrow
  exact GroupForm.exec_quotient hrow

/-- Settles O45: a quotient in the signed range is placed with its remainder. -/
theorem idivCompletes : Obligations.IdivCompletes := by
  intro f s y x hy hlow hhigh
  have hrow := f.exec_idivRow s
  have hx : (s.readPair f.width).toInt = x := s.readPair_toInt f.width
  rw [← hx] at hlow hhigh
  rw [divideSigned_of_fits hy hlow hhigh, hx] at hrow
  exact GroupForm.exec_quotient hrow

/-- Settles O46: where there is no quotient, `#DE` is raised from the state with the operands loaded. -/
theorem divideFaults : Obligations.DivideFaults := by
  intro f s b d y x faults
  refine ⟨fun h => ?div, fun h => ?idiv⟩
  case div =>
    have hrow := f.exec_divRow s
    rw [divide_eq_none (by rwa [s.readPair_toNat])] at hrow
    exact GroupForm.exec_divideFault hrow
  case idiv =>
    have hrow := f.exec_idivRow s
    rw [divideSigned_eq_none (by rwa [s.readPair_toInt])] at hrow
    exact GroupForm.exec_divideFault hrow

end Sys2Proof.Machine
end

section
/-!
SUPPORT. The statements about shifts and rotates (44_shift_rotate): each row runs `exec_shift` on the operands of its
form, a shift is a product or a quotient by `2^c`, and a rotate moves each bit around the operand, or around the ring of
the operand and CF.
-/
namespace Sys2Proof.Machine

/-! ### Rotations -/

section Rotations

variable {k : Nat}

/-- `rotl_k` rotates left, by the count modulo `k` (40_flag_engine R417). -/
theorem rotatedLeft_rotl (x : BitVec k) (n : Nat) : RotatedLeft x n (rotl x (n % k)) := by
  intro i hi
  have hm : n % k < k := Nat.mod_lt n (Nat.zero_lt_of_lt hi)
  change (x.rotateLeft n).getLsbD ((i + n) % k) = x.getLsbD i
  rw [BitVec.getLsbD_rotateLeft, Nat.add_mod_eq_ite, Nat.mod_eq_of_lt hi]
  by_cases h : k ≤ i + n % k
  · have hwrap : i + n % k - k < n % k := by omega
    have hback : k - n % k + (i + n % k - k) = i := by omega
    simp [h, hwrap, hback]
  · simp [h, Nat.lt_of_not_le h]

/-- `rotr_k` undoes a rotation left, by the count modulo `k` (40_flag_engine R417). -/
theorem rotatedLeft_rotr (x : BitVec k) (n : Nat) : RotatedLeft (rotr x (n % k)) n x := by
  intro i hi
  have hm : n % k < k := Nat.mod_lt n (Nat.zero_lt_of_lt hi)
  have hturn : i + n + (k - n % k) = i + k * (n / k + 1) := by
    have hn := Nat.div_add_mod n k
    rw [Nat.mul_add_one]
    omega
  have hback : ((i + n) % k + (k - n % k)) % k = i := by
    rw [Nat.mod_add_mod, hturn, Nat.add_mul_mod_self_left, Nat.mod_eq_of_lt hi]
  have hrot := rotatedLeft_rotl x (k - n % k) ((i + n) % k) (Nat.mod_lt _ (Nat.zero_lt_of_lt hi))
  rw [hback] at hrot
  exact hrot.symm

end Rotations

section Carry

variable (w : Width) (a : BitVec w.bits) (c : BitVec 5) (b : Bool)

/-- The ring of a rotate through carry is the operand with the carry put above it (40_flag_engine R417). -/
theorem carryRing_eq_cons : carryRing w b a = BitVec.cons b a := by
  refine BitVec.eq_of_getLsbD_eq fun i hi => ?_
  rw [carryRing, BitVec.getLsbD_or, BitVec.getLsbD_shiftLeft, BitVec.getLsbD_setWidth, BitVec.getLsbD_setWidth,
    BitVec.getLsbD_cons, BitVec.getLsbD_ofBool]
  obtain hlow | rfl : i < w.bits ∨ i = w.bits := by omega
  · simp [hlow, hlow.ne, hi]
  · simp

/-- A count of 5 bits is below the 33 bits of the widest ring (40_flag_engine R417). -/
theorem carryCount_eq_mod : carryCount w c = c.toNat % (w.bits + 1) := by
  cases w with
  | byte | word => rfl
  | dword => exact (Nat.mod_eq_of_lt (c.isLt.trans (by decide))).symm

/-- RCL rotates the ring left (44_shift_rotate R815). -/
theorem rotatedLeft_rclWide : RotatedLeft (carryRing w b a) c.toNat (rclWide w a c b) := by
  rw [carryRing_eq_cons, rclWide, carryCount_eq_mod]
  exact rotatedLeft_rotl _ _

/-- RCR rotates the ring right (44_shift_rotate R816). -/
theorem rotatedLeft_rcrWide : RotatedLeft (rcrWide w a c b) c.toNat (carryRing w b a) := by
  rw [carryRing_eq_cons, rcrWide, carryCount_eq_mod]
  exact rotatedLeft_rotr _ _

/-- The operand's bits are the low bits of the ring (44_shift_rotate R815). -/
theorem getLsbD_setWidth_ring {i : Nat} (hi : i < w.bits) (y : BitVec (w.bits + 1)) :
    (y.setWidth w.bits).getLsbD i = y.getLsbD i := by
  rw [BitVec.getLsbD_setWidth, decide_eq_true hi, Bool.true_and]

/-- OF of RCL by one place, read off the ring (40_flag_engine R417). -/
theorem evalOF_rcl (hc : c = 1#5) : evalOF (.rcl w a c b) =
    some ((rclWide w a c b).getLsbD (w.bits - 1) ^^ (rclWide w a c b).getLsbD w.bits) := by
  have htop : w.bits - 1 < w.bits := by cases w <;> decide
  rw [evalOF, if_pos hc, topBit, rclResult, getLsbD_setWidth_ring w htop]

/-- OF of RCR by one place, read off the ring (40_flag_engine R417). -/
theorem evalOF_rcr (hc : c = 1#5) : evalOF (.rcr w a c b) =
    some ((rcrWide w a c b).getLsbD (w.bits - 1) ^^ (rcrWide w a c b).getLsbD (w.bits - 2)) := by
  have htop : w.bits - 1 < w.bits := by cases w <;> decide
  have hnext : w.bits - 2 < w.bits := by cases w <;> decide
  rw [evalOF, if_pos hc, topBit, nextBit, rcrResult, getLsbD_setWidth_ring w htop, getLsbD_setWidth_ring w hnext]

end Carry

/-! ### Shifts as arithmetic -/

section Shifts

variable {n : Nat} (a : BitVec n) (c : Nat)

theorem shiftLeft_eq_ofNat_mul : a <<< c = BitVec.ofNat n (a.toNat * 2 ^ c) := by
  rw [← BitVec.toNat_inj, BitVec.toNat_shiftLeft, BitVec.toNat_ofNat, Nat.shiftLeft_eq]

theorem ushiftRight_eq_ofNat_div : a >>> c = BitVec.ofNat n (a.toNat / 2 ^ c) := by
  rw [← Nat.shiftRight_eq_div_pow, ← BitVec.toNat_ushiftRight, BitVec.ofNat_toNat, BitVec.setWidth_eq]

theorem sshiftRight_eq_ofInt_div : a.sshiftRight c = BitVec.ofInt n (a.toInt / 2 ^ c) := by
  rw [BitVec.sshiftRight, Int.shiftRight_eq_div_pow, Nat.cast_pow, Nat.cast_ofNat]

end Shifts

/-! ### The masked count -/

section Count

variable (f : ShiftForm) (s : State)

/-- The count operand of a form (44_shift_rotate R800). -/
def ShiftForm.countOperand : ShiftForm → Operand
  | .ebIb _ _ v | .evIb _ _ v => .imm8 v false
  | .eb1 _ _ | .ev1 _ _ => .one
  | .ebCL _ _ | .evCL _ _ => .fixed .cx

theorem ShiftForm.countOperand_isRm : f.countOperand.isRm = false := by
  cases f <;> rfl

theorem ShiftForm.countOperand_value : s.operandValue .byte f.head f.countOperand = f.countByte s := by
  cases f with
  | ebIb h e v | evIb h e v => exact BitVec.setWidth_eq v
  | eb1 | ev1 | ebCL | evCL => rfl

/-- The masked count in the 5 bits in which a tag holds it (40_flag_engine R410; 44_shift_rotate R801). -/
abbrev ShiftForm.count5 : BitVec 5 := BitVec.ofNat 5 (f.count s)

theorem ShiftForm.count_lt : f.count s < 2 ^ 5 := Nat.mod_lt _ (by decide)

theorem ShiftForm.count5_toNat : (f.count5 s).toNat = f.count s := by
  rw [BitVec.toNat_ofNat, Nat.mod_eq_of_lt (f.count_lt s)]

theorem ShiftForm.maskedCount_countOperand :
    maskedCount (s.operandValue .byte f.head f.countOperand) = f.count5 s := by
  rw [f.countOperand_value, ← BitVec.toNat_inj, f.count5_toNat]
  exact BitVec.toNat_setWidth 5 (f.countByte s)

theorem ShiftForm.count5_eq_iff {m : Nat} (hm : m < 2 ^ 5) : f.count5 s = BitVec.ofNat 5 m ↔ f.count s = m := by
  rw [← BitVec.toNat_inj, f.count5_toNat, BitVec.toNat_ofNat, Nat.mod_eq_of_lt hm]

end Count

/-! ### The rows of a form -/

section Rows

variable (f : ShiftForm) (op : ShiftOp) (s : State)

/-- The state after an operation on the operands of a form (44_shift_rotate R802). -/
def ShiftForm.run : State := s.shift op f.width f.head f.operand f.countOperand

theorem ShiftForm.exec_instr : exec (f.instr op) s = .next (f.run op s) := by
  cases op <;> cases f <;> rfl

/-- A row `/6` runs SHL (30_encoding R371). -/
theorem ShiftForm.exec_shlRow6 : exec f.shlRow6 s = .next (f.run .shl s) := by
  cases f <;> rfl

/-- The carry-in of an operation: CF before it, false where the operation takes none (44_shift_rotate R802). -/
def ShiftOp.carry (op : ShiftOp) (s : State) : Bool := op.readsCarry && s.flag .cf

/-- The result of an operation on the operands of a form (44_shift_rotate R802). -/
def ShiftForm.result : BitVec f.width.bits := op.result f.width (f.value s) (f.count5 s) (op.carry s)

/-- The flag actions of an operation on the operands of a form (44_shift_rotate R802). -/
def ShiftForm.actions : FlagActions := op.actions f.width (f.value s) (f.count5 s) (op.carry s)

/-- For a masked count other than 0, an operation stores its result and writes its flags (44_shift_rotate R802). -/
theorem ShiftForm.run_stores (hc : f.count s ≠ 0) :
    ReadModifyWrite f.head f.width (f.loc s) (f.result op s) s (f.run op s) ∧
      Wrote (f.actions op s) s (f.run op s) := by
  have hmask : maskedCount (s.operandValue .byte f.head f.countOperand) ≠ 0#5 := by
    rw [f.maskedCount_countOperand]
    exact mt (f.count5_eq_iff s (by decide)).mp hc
  have hspec := s.shift_spec op f.width f.head f.operand f.countOperand f.countOperand_isRm hmask
  rw [f.maskedCount_countOperand] at hspec
  obtain ⟨hstore, hflags⟩ := hspec
  exact ⟨hstore, .of_writeFlags (op.actions_sound _ _ _ _) hflags⟩

end Rows

/-! ### The results of a form -/

section Results

variable (f : ShiftForm) (s : State)

theorem ShiftForm.result_shl :
    f.result .shl s = BitVec.ofNat f.width.bits ((f.value s).toNat * 2 ^ f.count s) := by
  rw [ShiftForm.result, ShiftOp.result, f.count5_toNat, shiftLeft_eq_ofNat_mul]

theorem ShiftForm.result_shr :
    f.result .shr s = BitVec.ofNat f.width.bits ((f.value s).toNat / 2 ^ f.count s) := by
  rw [ShiftForm.result, ShiftOp.result, f.count5_toNat, ushiftRight_eq_ofNat_div]

theorem ShiftForm.result_sar :
    f.result .sar s = BitVec.ofInt f.width.bits ((f.value s).toInt / 2 ^ f.count s) := by
  rw [ShiftForm.result, ShiftOp.result, f.count5_toNat, sshiftRight_eq_ofInt_div]

theorem ShiftForm.rotatedLeft_rol : RotatedLeft (f.value s) (f.count s) (f.result .rol s) := by
  have hrot : RotatedLeft (f.value s) (f.count5 s).toNat (f.result .rol s) := rotatedLeft_rotl _ _
  rwa [f.count5_toNat] at hrot

theorem ShiftForm.rotatedLeft_ror : RotatedLeft (f.result .ror s) (f.count s) (f.value s) := by
  have hrot : RotatedLeft (f.result .ror s) (f.count5 s).toNat (f.value s) := rotatedLeft_rotr _ _
  rwa [f.count5_toNat] at hrot

theorem ShiftForm.rotatedLeft_rcl : RotatedLeft (carryRing f.width (s.flag .cf) (f.value s)) (f.count s)
    (rclWide f.width (f.value s) (f.count5 s) (s.flag .cf)) := by
  have hrot := rotatedLeft_rclWide f.width (f.value s) (f.count5 s) (s.flag .cf)
  rwa [f.count5_toNat] at hrot

theorem ShiftForm.rotatedLeft_rcr : RotatedLeft (rcrWide f.width (f.value s) (f.count5 s) (s.flag .cf)) (f.count s)
    (carryRing f.width (s.flag .cf) (f.value s)) := by
  have hrot := rotatedLeft_rcrWide f.width (f.value s) (f.count5 s) (s.flag .cf)
  rwa [f.count5_toNat] at hrot

end Results

/-! ### What a shift or rotate does for a count other than 0 -/

section Clauses

variable {f : ShiftForm} {s : State} {op : ShiftOp} {one more x : Tag} {cf of cfMore : Bool}

theorem ShiftForm.count5_eq_one_iff : f.count5 s = 1#5 ↔ f.count s = 1 := f.count5_eq_iff s (by decide)

/-- SHL and SHR: a result, and CF and OF by the count, which is 1, longer but below the width, or the width and more
(44_shift_rotate R810, R811). -/
theorem ShiftForm.run_logicalShift (hc : f.count s ≠ 0)
    (hact : f.actions op s = shiftActions f.width (f.result op s) (f.count5 s) one more)
    (hone : evalFlag .cf one = some cf ∧ evalFlag .of one = some of) (hmore : evalFlag .cf more = some cfMore) :
    ReadModifyWrite f.head f.width (f.loc s) (f.result op s) s (f.run op s) ∧
      ResultFlags f.width (f.result op s) (f.run op s) ∧
      (f.count s = 1 → Wrote (resultActions f.width (f.result op s) (.lazy one) .undef (.lazy one)) s (f.run op s) ∧
        (f.run op s).flag .cf = cf ∧ (f.run op s).flag .of = of) ∧
      (2 ≤ f.count s → f.count s ≤ f.width.bits - 1 →
        Wrote (resultActions f.width (f.result op s) (.lazy more) .undef .undef) s (f.run op s) ∧
        (f.run op s).flag .cf = cfMore) ∧
      (f.width.bits ≤ f.count s →
        Wrote (resultActions f.width (f.result op s) .undef .undef .undef) s (f.run op s)) := by
  obtain ⟨hstore, hw⟩ := f.run_stores op s hc
  have hbits : 2 ≤ f.width.bits := by cases f.width <;> decide
  rw [hact, shiftActions] at hw
  simp only [count5_eq_one_iff, f.count5_toNat] at hw
  by_cases h1 : f.count s = 1
  · rw [if_pos h1] at hw
    exact ⟨hstore, hw.resultFlags, fun _ => ⟨hw, hw.lazy_flag rfl hone.1, hw.lazy_flag rfl hone.2⟩,
      fun _ _ => by omega, fun _ => by omega⟩
  · rw [if_neg h1] at hw
    by_cases hlt : f.count s < f.width.bits
    · rw [if_pos hlt] at hw
      exact ⟨hstore, hw.resultFlags, fun h => absurd h h1, fun _ _ => ⟨hw, hw.lazy_flag rfl hmore⟩,
        fun h => absurd hlt h.not_gt⟩
    · rw [if_neg hlt] at hw
      exact ⟨hstore, hw.resultFlags, fun h => absurd h h1, fun _ _ => by omega, fun _ => hw⟩

/-- SAR: a result, and CF and OF by the count, which is 1 or longer (44_shift_rotate R812). -/
theorem ShiftForm.run_sar (hc : f.count s ≠ 0) :
    ReadModifyWrite f.head f.width (f.loc s) (f.result .sar s) s (f.run .sar s) ∧
      ResultFlags f.width (f.result .sar s) (f.run .sar s) ∧
      (f.count s = 1 →
        Wrote (resultActions f.width (f.result .sar s) (.lazy (.sar1 f.width (f.value s))) .undef
          (.lazy (.sar1 f.width (f.value s)))) s (f.run .sar s) ∧
        (f.run .sar s).flag .cf = (f.value s).getLsbD 0 ∧ (f.run .sar s).flag .of = false) ∧
      (2 ≤ f.count s →
        Wrote (resultActions f.width (f.result .sar s) (.lazy (.sar f.width (f.value s) (f.count5 s))) .undef
          .undef) s (f.run .sar s) ∧
        (f.run .sar s).flag .cf = (f.value s).getLsbD (min (f.count s) f.width.bits - 1)) := by
  obtain ⟨hstore, hw⟩ := f.run_stores .sar s hc
  rw [ShiftForm.actions, ShiftOp.actions, sarActions] at hw
  simp only [count5_eq_one_iff] at hw
  by_cases h1 : f.count s = 1
  · rw [if_pos h1] at hw
    exact ⟨hstore, hw.resultFlags, fun _ => ⟨hw, hw.lazy_flag rfl rfl, hw.lazy_flag rfl rfl⟩, fun _ => by omega⟩
  · rw [if_neg h1] at hw
    refine ⟨hstore, hw.resultFlags, fun h => absurd h h1, fun _ => ⟨hw, ?_⟩⟩
    rw [← f.count5_toNat]
    exact hw.lazy_flag rfl rfl

/-- A rotate: a result, CF by the tag, and OF for the count 1 (44_shift_rotate R803). -/
theorem ShiftForm.run_rotate (hc : f.count s ≠ 0) (hact : f.actions op s = rotateActions (f.count5 s) x)
    (hcf : evalFlag .cf x = some cf) (hof : f.count5 s = 1#5 → evalFlag .of x = some of) :
    ReadModifyWrite f.head f.width (f.loc s) (f.result op s) s (f.run op s) ∧
      Wrote { cf := .lazy x, of := if f.count s = 1 then .lazy x else .undef } s (f.run op s) ∧
      (f.run op s).flag .cf = cf ∧ (f.count s = 1 → (f.run op s).flag .of = of) := by
  obtain ⟨hstore, hw⟩ := f.run_stores op s hc
  rw [hact, rotateActions, ofForOne] at hw
  simp only [count5_eq_one_iff] at hw hof
  refine ⟨hstore, hw, hw.lazy_flag rfl hcf, fun h1 => ?_⟩
  rw [if_pos h1] at hw
  exact hw.lazy_flag rfl (hof h1)

end Clauses

/-! ### The operations -/

/-- Settles O47: every row runs `exec_shift`, which goes no further than its loads. -/
theorem shiftByZero : Obligations.ShiftByZero := by
  intro f s hc still
  have hmask : maskedCount (s.operandValue .byte f.head f.countOperand) = 0#5 := by
    rw [f.maskedCount_countOperand]
    exact (f.count5_eq_iff s (by decide)).mpr hc
  have hstill {i : Instr} {op : ShiftOp} (hi : exec i s = .next (f.run op s)) : still i :=
    ⟨_, hi, s.shift_zero op f.width f.head f.operand f.countOperand f.countOperand_isRm hmask⟩
  exact ⟨fun op => hstill (f.exec_instr op s), hstill (f.exec_shlRow6 s)⟩

/-- Settles O48: a shift left is a product by `2^c`, of which nothing is left from the width on. -/
theorem shlResult : Obligations.ShlResult := by
  intro f s i hi hc c a n r
  have hrun : exec i s = .next (f.run .shl s) := by
    obtain rfl | rfl := hi
    · exact f.exec_instr .shl s
    · exact f.exec_shlRow6 s
  have hr : a <<< c = r := shiftLeft_eq_ofNat_mul a c
  have hclauses := f.run_logicalShift (op := .shl) hc rfl ⟨rfl, rfl⟩ rfl
  rw [f.result_shl, f.count5_toNat] at hclauses
  obtain ⟨hstore, hszp, hone, hmore, hwide⟩ := hclauses
  exact ⟨_, hrun, hstore, hszp, hone, hmore, fun h => ⟨hwide h, hr ▸ BitVec.shiftLeft_eq_zero h⟩⟩

/-- Settles O49: a shift right is a quotient by `2^c`, of which nothing is left from the width on. -/
theorem shrResult : Obligations.ShrResult := by
  rintro f s i rfl hc c a n r
  have hr : a >>> c = r := ushiftRight_eq_ofNat_div a c
  have hclauses := f.run_logicalShift (op := .shr) hc rfl ⟨rfl, rfl⟩ rfl
  rw [f.result_shr, f.count5_toNat] at hclauses
  obtain ⟨hstore, hszp, hone, hmore, hwide⟩ := hclauses
  exact ⟨_, f.exec_instr .shr s, hstore, hszp, hone, hmore, fun h => ⟨hwide h, hr ▸ BitVec.ushiftRight_eq_zero h⟩⟩

/-- Settles O50: an arithmetic shift right is the floor of the signed quotient by `2^c`. -/
theorem sarResult : Obligations.SarResult := by
  rintro f s i rfl hc c a n r
  have hclauses := f.run_sar hc
  rw [f.result_sar] at hclauses
  exact ⟨_, f.exec_instr .sar s, hclauses⟩

/-- Settles O51: a rotation of the operand, ROL left and ROR back. -/
theorem rotateResult : Obligations.RotateResult := by
  intro f s hc c a n
  exact ⟨⟨_, _, f.exec_instr .rol s, f.rotatedLeft_rol s, f.run_rotate hc rfl rfl fun h => if_pos h⟩,
    ⟨_, _, f.exec_instr .ror s, f.rotatedLeft_ror s, f.run_rotate hc rfl rfl fun h => if_pos h⟩⟩

/-- Settles O52: a rotation of the ring, RCL left and RCR back. -/
theorem rotateCarryResult : Obligations.RotateCarryResult := by
  intro f s hc c a b n
  have hrcl := f.run_rotate (op := .rcl) hc rfl rfl (evalOF_rcl f.width a _ b)
  have hrcr := f.run_rotate (op := .rcr) hc rfl rfl (evalOF_rcr f.width a _ b)
  exact ⟨⟨_, _, f.exec_instr .rcl s, f.rotatedLeft_rcl s, hrcl⟩,
    ⟨_, _, f.exec_instr .rcr s, f.rotatedLeft_rcr s, hrcr⟩⟩

end Sys2Proof.Machine
end

section
/-!
SUPPORT. The statements about the instructions that read flags or write them from elsewhere (45_flag_consumers): CLC,
STC, CMC, LAHF and SAHF, the conditional jumps, and SETcc.
-/
namespace Sys2Proof.Machine

/-! ### Slots after a flag write -/

/-- A group whose flags are all kept is not written: its tag and its overrides stay (40_flag_engine R440). -/
theorem State.writeFlags_keepGroup {a : FlagActions} {f : Flag} (s : State)
    (hk : ((flagsOf (groupOf f)).all fun g => (a.get g).isKeep) = true) :
    (s.writeFlags a).flags.ovr f = s.flags.ovr f ∧
      (s.writeFlags a).flags.tag (groupOf f) = s.flags.tag (groupOf f) := by
  obtain ⟨q, hovr, htag, hovr', htag'⟩ := write_slots a (s.flags, s.draws) f
  have hq : writeGroup a q (groupOf f) = q := by rw [writeGroup, if_pos hk]
  rw [hq] at hovr' htag'
  exact ⟨hovr'.trans hovr, htag'.trans htag⟩

/-! ### CLC, STC and CMC -/

/-- How CLC, STC and CMC end: CF is written, and `EIP` advances (45_flag_consumers R901-R903). -/
def State.setCarry (h : Head) (b : Bool) (s : State) : State :=
  (s.writeFlags { cf := .explicit b }).advance h.len

/-- A write of CF evaluates AF, which its group keeps, and evaluates it once, if it is pending (45_flag_consumers R901;
40_flag_engine R440). -/
theorem State.setCarry_evalCount (h : Head) (b : Bool) (s : State) :
    (s.setCarry h b).flags.evalCount = s.flags.evalCount + if (s.flags.ovr .af).isSome then 0 else 1 := by
  have hwrite : (s.setCarry h b).flags = ((s.flags.resolve .af).setTag .ca none).setOvr .cf (some b) := rfl
  rw [hwrite, FlagEngine.evalCount_setOvr, FlagEngine.evalCount_setTag, FlagEngine.evalCount_resolve]

/-- What a write of CF does from an engine `e` that reads as that of `s`: CMC has filled the cache of CF before it. -/
theorem State.setCarry_spec (h : Head) (b : Bool) (s : State) {e : FlagEngine} (he : ∀ f, e.value f = s.flag f) :
    let t := (s.setFlags e).setCarry h b
    Completes h s t ∧ NothingStored s t ∧ t.busLog = s.busLog ∧ t.accessorCache = s.accessorCache ∧
      Wrote { cf := .explicit b } s t ∧ t.flag .cf = b ∧ ∀ f, f ≠ .cf → t.flag f = s.flag f := by
  have hw : Wrote { cf := .explicit b } s ((s.setFlags e).setCarry h b) :=
    .of_writeFlags (carryActions_sound b) ⟨s.setFlags e, he, rfl⟩
  refine ⟨.of (.refl s) rfl rfl rfl rfl rfl rfl rfl, ⟨rfl, fun _ => rfl⟩, rfl, rfl, hw, hw.explicit_flag rfl, ?_⟩
  intro f hf
  refine hw.keep_flag ?_
  cases f with
  | cf => exact absurd rfl hf
  | pf | af | zf | sf | of => rfl

/-- Settles O53: each of the three writes CF, CMC after a read of it; CLC and STC evaluate AF at most. -/
theorem carryInstructions : Obligations.CarryInstructions := by
  intro h s carry evaluates
  have hset (b : Bool) := s.setCarry_spec h b (e := s.flags) fun _ => rfl
  have hflip := s.setCarry_spec h (!s.flag .cf) (s.flags.value_resolve .cf)
  have heval {i : Instr} {b : Bool} (hi : exec i s = .next (s.setCarry h b)) : evaluates i := by
    intro t ht
    cases hi.symm.trans ht
    exact s.setCarry_evalCount h b
  exact ⟨⟨_, rfl, hset false⟩, ⟨_, rfl, hset true⟩, ⟨_, rfl, hflip⟩, heval (b := false) rfl, heval (b := true) rfl⟩

/-! ### LAHF and SAHF -/

/-- The byte of LAHF as a sum of weighted bits (45_flag_consumers R904). -/
theorem lahfByte_eq_ofNat : ∀ sf zf af pf cf : Bool,
    lahfByte sf zf af pf cf =
      BitVec.ofNat 8 (sf.toNat * 128 + zf.toNat * 64 + af.toNat * 16 + pf.toNat * 4 + 2 + cf.toNat) := by
  decide

/-- What LAHF does (45_flag_consumers R904): its five reads change no resolved flag. -/
theorem State.lahf_spec (h : Head) (s : State) :
    Completes h s (s.lahf h) ∧ MemoryKept s (s.lahf h) ∧ (s.lahf h).busLog = s.busLog ∧ FlagsKept s (s.lahf h) ∧
      (s.lahf h).gpr =
        s.gpr.write .byte .sp (lahfByte (s.flag .sf) (s.flag .zf) (s.flag .af) (s.flag .pf) (s.flag .cf)) := by
  have hA : Same s (s.loadAddress .byte h (.fixed .sp)).2 := Same.loadAddress s .byte h _
  have hcalls : (s.loadAddress .byte h (.fixed .sp)).2.busLog = s.busLog := s.loadAddress_busLog .byte h _
  have hflag : ∀ f, (s.loadAddress .byte h (.fixed .sp)).2.flag f = s.flag f := State.flag_congr hA.flags
  have hloc : (s.loadAddress .byte h (.fixed .sp)).1 = .reg .sp := rfl
  simp only [State.lahf, hloc, State.readFlag_fst, State.flag_readFlag, hflag]
  generalize (s.loadAddress .byte h (.fixed .sp)).2 = u at hA hcalls hflag
  refine ⟨.of hA rfl rfl rfl rfl rfl rfl rfl, State.byteAt_congr hA.mem, hcalls, fun f => ?_, ?_⟩
  · simp [State.flag, hA.flags]
  · simp [State.storeLoc, hA.gpr]

/-- What SAHF does (45_flag_consumers R905). -/
theorem State.sahf_spec (h : Head) (s : State) :
    Completes h s (s.sahf h) ∧ NothingStored s (s.sahf h) ∧ (s.sahf h).busLog = s.busLog ∧
      ∃ u : State, u.flags = s.flags ∧ (s.sahf h).flags = (u.writeFlags (sahfActions (s.readReg .byte .sp))).flags := by
  have hA : Same s (s.loadValue .byte h (.fixed .sp)).2 := Same.loadValue s .byte h _
  have hcalls : (s.loadValue .byte h (.fixed .sp)).2.busLog = s.busLog := s.loadValue_busLog .byte h _
  have hval : (s.loadValue .byte h (.fixed .sp)).1 = s.readReg .byte .sp := s.loadValue_fst .byte h _
  simp only [State.sahf, hval]
  generalize (s.loadValue .byte h (.fixed .sp)).2 = u at hA hcalls
  exact ⟨.of hA rfl rfl rfl rfl rfl rfl rfl, ⟨hA.gpr, State.byteAt_congr hA.mem⟩, hcalls, u, hA.flags, rfl⟩

/-- Settles O54: LAHF stores the image of five flags in `AH`; SAHF writes them from `AH`, and its write leaves the
group of OF alone. -/
theorem flagsToAndFromAh : Obligations.FlagsToAndFromAh := by
  intro h s
  obtain ⟨hdone, hmem, hcalls, hkept, hgpr⟩ := s.lahf_spec h
  rw [lahfByte_eq_ofNat] at hgpr
  refine ⟨⟨_, rfl, hdone, hmem, hcalls, hkept, hgpr⟩, ?_⟩
  obtain ⟨hdone, hstored, hcalls, u, hu, ht⟩ := s.sahf_spec h
  have hw : Wrote (sahfActions (s.readReg .byte .sp)) s (s.sahf h) :=
    .of_writeFlags (sahfActions_sound _) ⟨u, State.flag_congr hu, ht⟩
  obtain ⟨hovr, htag⟩ := u.writeFlags_keepGroup (a := sahfActions (s.readReg .byte .sp)) (f := .of) rfl
  rw [← ht, hu] at hovr htag
  exact ⟨_, rfl, hdone, hstored, hcalls, hw .sf, hw .zf, hw .af, hw .pf, hw .cf, hovr, htag, hw .of⟩

/-! ### Jump targets -/

/-- `trunc` of a word is that of any integer it stands for (00_scope R10). -/
theorem truncTo_ofInt (z : Size) (x : Int) : truncTo z (BitVec.ofInt 32 x) = truncInt z x := by
  cases z with
  | b16 =>
    apply BitVec.eq_of_toNat_eq
    have hmask : (0xFFFF#32).toNat = 2 ^ 16 - 1 := rfl
    simp only [truncTo, truncInt, BitVec.toNat_and, hmask, Nat.and_two_pow_sub_one_eq_mod, BitVec.toNat_ofInt]
    omega
  | b32 => exact (ofInt_emod_32 x).symm

/-- `ipwrap` reduces a number to the code size (10_state R120). -/
theorem State.ipwrap_eq_truncInt (s : State) (x : Dword) : s.ipwrap x = truncInt s.params.codeSize x.toNat := by
  rw [← truncTo_ofInt, ofInt_toNat, State.ipwrap]

/-- The next instruction over the integers (10_state R121). -/
theorem State.ipwrap_next (s : State) (n : Nat) :
    s.ipwrap (s.eip + BitVec.ofNat 32 n) = truncInt s.params.codeSize (s.eip.toNat + n) := by
  rw [← truncTo_ofInt, BitVec.ofInt_add, ofInt_toNat, BitVec.ofInt_natCast, State.ipwrap]

/-- The target over the integers (45_flag_consumers R920). -/
theorem JumpForm.jumpTarget_eq (f : JumpForm) (s : State) :
    s.jumpTarget f.head (BitVec.ofInt 32 f.offset) = f.target s := by
  rw [State.jumpTarget, State.ipwrap_eq_truncInt, JumpForm.target, ← truncTo_ofInt f.head.opSize, BitVec.ofInt_add,
    BitVec.ofInt_add, ofInt_toNat, BitVec.ofInt_natCast]

/-! ### Conditional jumps -/

/-- A condition depends on the flags alone (45_flag_consumers R910). -/
theorem State.condition_congr {s t : State} (h : t.flags = s.flags) (c : Cond) : t.condition c = s.condition c := by
  have hflag := State.flag_congr h
  cases c <;> simp only [State.condition, hflag]

/-- The width at which the offset of a form is loaded (30_encoding R342, R364). -/
def JumpForm.width : JumpForm → Width
  | .short _ _ => .dword
  | .near h _ => h.opSize.width

/-- The offset of a form as an operand (30_encoding R333, R342). -/
def JumpForm.operand : JumpForm → Operand
  | .short _ v => .imm8 v true
  | .near _ v => .immZ v true

section Jumps

variable (f : JumpForm) (c : Cond) (s : State)

/-- The state after the load of the offset, from which the condition is read (45_flag_consumers R921). -/
def JumpForm.loaded : State := (s.loadValue f.width f.head f.operand).2

theorem JumpForm.loaded_same : Same s (f.loaded s) := Same.loadValue s f.width f.head f.operand

theorem JumpForm.loaded_busLog : (f.loaded s).busLog = s.busLog := by
  have hcalls : s.sourceCalls f.width f.head f.operand = [] := by cases f <;> rfl
  rw [JumpForm.loaded, State.loadValue_busLog, hcalls, List.nil_append]

/-- The row of a condition in a form is `exec_jcc` with the offset of the form (45_flag_consumers R920, R921). -/
theorem JumpForm.exec_instr :
    exec (f.instr c) s = .next ((f.loaded s).jumpIf c f.head (BitVec.ofInt 32 f.offset)) := by
  cases f with
  | short h v => cases c <;> rfl
  | near h v =>
    have hrow : exec ((JumpForm.near h v).instr c) s = .next (s.jumpNear c h v) := by cases c <;> rfl
    have hoffset : (v.setWidth h.opSize.width.bits).signExtend 32 = BitVec.ofInt 32 (JumpForm.near h v).offset := by
      simp only [JumpForm.offset]
      cases h.opSize with
      | b16 => rfl
      | b32 => exact congrArg (BitVec.signExtend 32) v.setWidth_eq
    rw [hrow, State.jumpNear, State.loadValue_fst, State.operandValue, hoffset]
    rfl

/-- The `EIP` of a jump, both targets over the integers (45_flag_consumers R920, R921). -/
theorem JumpForm.jumpIf_eip :
    (s.jumpIf c f.head (BitVec.ofInt 32 f.offset)).eip =
      if s.condition c then f.target s else truncInt s.params.codeSize (s.eip.toNat + f.head.len) := by
  obtain ⟨heip, -⟩ := State.jumpIf_spec c f.head (BitVec.ofInt 32 f.offset) s
  rw [heip, f.jumpTarget_eq, s.ipwrap_next]

end Jumps

/-- Settles O55: the load of the offset changes nothing that the jump depends on, and the jump changes `EIP` alone. -/
theorem conditionalJumps : Obligations.ConditionalJumps := by
  intro f c s
  have hload : Same s (f.loaded s) := f.loaded_same s
  obtain ⟨-, hgpr, hmem, hstatus, hcalls, hkept, hflags⟩ :=
    State.jumpIf_spec c f.head (BitVec.ofInt 32 f.offset) (f.loaded s)
  refine ⟨_, f.exec_instr c s, ?_, hgpr.trans hload.gpr, State.byteAt_congr (hmem.trans hload.mem),
    fun g => (hflags g).trans (State.flag_congr hload.flags g), hstatus.trans hload.status,
    hload.moves.kept.trans hkept, hcalls.trans (f.loaded_busLog s), hload.cache.trans (CacheGrows.jumpIf c _ _ _).kept⟩
  rw [f.jumpIf_eip, State.condition_congr hload.flags, JumpForm.target, JumpForm.target, hload.eip, hload.params]

/-! ### SETcc -/

/-- The row of a condition is SETcc of it, whatever the `reg` field (45_flag_consumers R922). -/
theorem exec_setccRow (c : Cond) (h : Head) (r : Reg) (e : EOperand) (s : State) :
    exec (setccRow c h r e) s = .next (s.setcc c h e) := by
  cases c <;> rfl

/-- Settles O56: every row runs SETcc, which stores the byte of its condition. -/
theorem setByteOnCondition : Obligations.SetByteOnCondition :=
  fun c h r e s => ⟨_, exec_setccRow c h r e s, s.setcc_spec c h e⟩

end Sys2Proof.Machine
end

section
/-!
SUPPORT. The statements about the port transfers and the software interrupts (46_io_interrupt): IN and OUT, INT3, INT n
and INTO.
-/
namespace Sys2Proof.Machine

/-! ### IN and OUT -/

/-- The port number of a form as an operand (46_io_interrupt R1000): a byte to extend with zeros, or `DX`. -/
def PortForm.operand : PortForm → Operand
  | .ibByte _ v => .imm8 v false
  | .ibWide _ v => .imm8 v false
  | .dxByte _ => .fixed .dx
  | .dxWide _ => .fixed .dx

section Ports

variable (f : PortForm) (s : State)

theorem PortForm.operand_isRm : f.operand.isRm = false := by cases f <;> rfl

theorem PortForm.operandValue_operand : s.operandValue .word f.head f.operand = f.port s := by cases f <;> rfl

theorem PortForm.exec_inRow : exec f.inRow s = .next (s.portIn f.width f.head f.operand) := by cases f <;> rfl

theorem PortForm.exec_outRow : exec f.outRow s = .next (s.portOut f.width f.head f.operand) := by cases f <;> rfl

end Ports

/-- Settles O57: below 32 bits what IN and OUT do is `portIn_spec` and `portOut_spec`; at 32 bits both refuse before
they load an operand. -/
theorem portTransfers : Obligations.PortTransfers := by
  intro f s
  rw [f.exec_inRow, f.exec_outRow]
  refine ⟨fun hw => ?_, fun hw => ?_⟩
  · obtain ⟨v, hin, hgpr, hmem, hflags, hread⟩ := s.portIn_spec f.width f.head f.operand hw f.operand_isRm
    obtain ⟨hout, hstored, hflags', hwrite⟩ := s.portOut_spec f.width f.head f.operand hw f.operand_isRm
    rw [f.operandValue_operand] at hread hwrite
    exact ⟨⟨_, v, rfl, hin, hgpr, State.byteAt_congr hmem, hflags, hread⟩, _, rfl, hout, hstored, hflags', hwrite⟩
  · rw [State.portIn, State.portOut, if_pos hw, if_pos hw]
    exact ⟨rfl, rfl⟩

/-! ### INT3, INT n and INTO -/

/-- The row of INT n loads its vector, which is the immediate itself, and hands it over (46_io_interrupt R1012). -/
theorem exec_intIb (h : Head) (n : BitVec 8) (s : State) :
    exec (.intIb h n) s =
      .next (State.deliver (.softInt n) ((s.loadValue .byte h (.imm8 n false)).2.advance h.len)) := by
  have hrow : exec (.intIb h n) s =
      .next ((s.loadValue .byte h (.imm8 n false)).2.softInt h.len (s.loadValue .byte h (.imm8 n false)).1) := rfl
  have hvector : s.operandValue .byte h (.imm8 n false) = n := n.setWidth_eq
  rw [hrow, State.loadValue_fst, hvector, State.softInt]

/-- What an advance does from a state that a load without an interface call has reached, with an engine `e` that reads
as before: INT n has loaded its vector, INTO has filled the cache of OF (46_io_interrupt R1012, R1013). -/
theorem Same.advance_spec {s t : State} (hload : Same s t) (hcalls : t.busLog = s.busLog) {e : FlagEngine}
    (he : ∀ f, e.value f = s.flag f) (h : Head) :
    let u := (t.setFlags e).advance h.len
    Completes h s u ∧ NothingStored s u ∧ FlagsKept s u ∧ u.busLog = s.busLog :=
  ⟨.of hload rfl rfl rfl rfl rfl rfl rfl, ⟨hload.gpr, State.byteAt_congr hload.mem⟩, he, hcalls⟩

/-- Settles O59: each of the three advances `EIP`, INT n after a load of its immediate and INTO after a read of OF, and
hands over the state so reached. -/
theorem softwareInterrupts : Obligations.SoftwareInterrupts := by
  intro h n s quiet
  have hload : Same s (s.loadValue .byte h (.imm8 n false)).2 := Same.loadValue s .byte h _
  have hcalls : (s.loadValue .byte h (.imm8 n false)).2.busLog = s.busLog := s.loadValue_busLog .byte h _
  exact ⟨⟨_, rfl, (Same.refl s).advance_spec rfl (fun _ => rfl) h⟩,
    ⟨_, exec_intIb h n s, hload.advance_spec hcalls (State.flag_congr hload.flags) h⟩,
    ⟨_, rfl, (Same.refl s).advance_spec rfl (s.flags.value_resolve .of) h⟩⟩

end Sys2Proof.Machine
end

section
/-!
SUPPORT. The decoder and the exceptions (60_exceptions R1102, R1104): no bytes end in a decode fault, and a row that
raises `#UD` is read from its opcode and ModRM byte alone.
-/
namespace Sys2Proof

/-! ### No decode fault -/

/-- The reading of a part does not end in a decode fault (60_exceptions R1104). -/
def Parse.NoFault {α : Type} (p : Parse α) : Prop := ∀ r rest, p ≠ .stop (.fatal r) rest

namespace Parse.NoFault
variable {α β : Type}

theorem done (a : α) (bs : List Byte) : NoFault (.done a bs) := nofun

theorem refuse (r : RefuseReason) (bs : List Byte) : NoFault (.stop (α := α) (.refuse r) bs) := nofun

theorem bind {p : Parse α} {f : α → List Byte → Parse β} (hp : p.NoFault) (hf : ∀ a bs, (f a bs).NoFault) :
    (p.bind f).NoFault := by
  cases p with
  | done a bs => exact hf a bs
  | stop x bs =>
    intro r rest h
    cases h
    exact hp r bs rfl

theorem map {p : Parse α} (hp : p.NoFault) (g : α → β) : (p.map g).NoFault := hp.bind fun a => done (g a)

theorem fetch8 (bs : List Byte) : (Sys2Proof.fetch8 bs).NoFault := by
  cases bs with
  | nil => exact refuse _ _
  | cons b bs => exact done b bs

theorem fetch16 (bs : List Byte) : (Sys2Proof.fetch16 bs).NoFault :=
  (fetch8 bs).bind fun _ bs => (fetch8 bs).bind fun _ => done _

theorem fetch32 (bs : List Byte) : (Sys2Proof.fetch32 bs).NoFault :=
  (fetch16 bs).bind fun _ bs => (fetch16 bs).bind fun _ => done _

/-- An immediate byte: its size is 1 (30_encoding R339, R342). -/
theorem fetchIb (bs : List Byte) : (Sys2Proof.fetchIb bs).NoFault := ((fetch8 bs).map _).map _

/-- An immediate of the operand size: its size is 2 or 4 (30_encoding R339, R342). -/
theorem fetchIz (z : Size) (bs : List Byte) : (Sys2Proof.fetchIz z bs).NoFault := by
  cases z with
  | b16 => exact (fetch16 bs).map _
  | b32 => exact fetch32 bs

theorem fetchDisp16 (mod : BitVec 2) (bs : List Byte) : (Sys2Proof.fetchDisp16 mod bs).NoFault := by
  unfold Sys2Proof.fetchDisp16
  split
  · exact done _ bs
  · exact (fetch8 bs).map _
  · exact (fetch16 bs).map _

theorem fetchDisp32 (mod : BitVec 2) (bs : List Byte) : (Sys2Proof.fetchDisp32 mod bs).NoFault := by
  unfold Sys2Proof.fetchDisp32
  split
  · exact done _ bs
  · exact (fetch8 bs).map _
  · exact (fetch32 bs).map _

theorem fetchMem16 (mod : BitVec 2) (rm : BitVec 3) (bs : List Byte) : (Sys2Proof.fetchMem16 mod rm bs).NoFault := by
  unfold Sys2Proof.fetchMem16
  split
  · exact (fetch16 bs).map _
  · exact (fetchDisp16 mod bs).map _

theorem fetchSib (mod : BitVec 2) (bs : List Byte) : (Sys2Proof.fetchSib mod bs).NoFault := by
  refine (fetch8 bs).bind fun sib bs => ?_
  split
  · exact (fetch32 bs).map _
  · exact (fetchDisp32 mod bs).map _

theorem fetchMem32 (mod : BitVec 2) (rm : BitVec 3) (bs : List Byte) : (Sys2Proof.fetchMem32 mod rm bs).NoFault := by
  unfold Sys2Proof.fetchMem32
  split
  · exact fetchSib mod bs
  · split
    · exact (fetch32 bs).map _
    · exact (fetchDisp32 mod bs).map _

/-- An operand that may be a register: the block has no memory-only operand (30_encoding R312). -/
theorem fetchEOperand (a : Size) (modrm : Byte) (bs : List Byte) :
    (Sys2Proof.fetchEOperand false a modrm bs).NoFault := by
  unfold Sys2Proof.fetchEOperand
  split
  · exact done _ bs
  · cases a with
    | b16 => exact fetchMem16 _ _ bs
    | b32 => exact fetchMem32 _ _ bs

theorem fetchGroupRow (p : AliasPolicy) (z a : Size) (modrm : Byte) (row : GroupRow) (bs : List Byte) :
    (Sys2Proof.fetchGroupRow p z a modrm row bs).NoFault := by
  have operand := fetchEOperand a modrm bs
  have withIb := operand.bind fun e bs => (fetchIb bs).map fun v => (e, v)
  have withIz := operand.bind fun e bs => (fetchIz z bs).map fun v => (e, v)
  cases row with
  | e mk => exact operand.map _
  | eIb mk => exact withIb.map _
  | eIz mk => exact withIz.map _
  | aliasE mk =>
    cases p with
    | twin => exact operand.map _
    | undefinedOpcode => exact done _ bs
  | aliasEIb mk =>
    cases p with
    | twin => exact withIb.map _
    | undefinedOpcode => exact done _ bs
  | aliasEIz mk =>
    cases p with
    | twin => exact withIz.map _
    | undefinedOpcode => exact done _ bs
  | undefined mk => exact done _ bs
  | notInBlock => exact refuse _ bs

theorem fetchRow (p : AliasPolicy) (z a : Size) (row : Row) (bs : List Byte) :
    (Sys2Proof.fetchRow p z a row bs).NoFault := by
  cases row with
  | eg mk => exact (fetch8 bs).bind fun modrm bs => (fetchEOperand a modrm bs).map _
  | egIb mk =>
    exact (fetch8 bs).bind fun modrm bs => (fetchEOperand a modrm bs).bind fun e bs => (fetchIb bs).map _
  | egIz mk =>
    exact (fetch8 bs).bind fun modrm bs => (fetchEOperand a modrm bs).bind fun e bs => (fetchIz z bs).map _
  | ib mk => exact (fetchIb bs).map _
  | iz mk => exact (fetchIz z bs).map _
  | plain mk => exact done mk bs
  | group rows => exact (fetch8 bs).bind fun modrm bs => fetchGroupRow p z a modrm _ bs

theorem fetchRow? (p : AliasPolicy) (z a : Size) (row : Option Row) (bs : List Byte) :
    (Sys2Proof.fetchRow? p z a row bs).NoFault := by
  cases row with
  | none => exact refuse _ bs
  | some row => exact fetchRow p z a row bs

theorem fetchBody (p : AliasPolicy) (z a : Size) (bs : List Byte) : (Sys2Proof.fetchBody p z a bs).NoFault := by
  refine (fetch8 bs).bind fun b bs => ?_
  split
  · exact (fetch8 bs).bind fun b' bs => fetchRow? p z a _ bs
  · exact fetchRow? p z a _ bs

theorem scanPrefixes (seen : Option Seg) (bs : List Byte) : (Sys2Proof.scanPrefixes seen bs).NoFault := by
  induction bs generalizing seen with
  | nil => exact refuse _ _
  | cons b bs ih =>
    unfold Sys2Proof.scanPrefixes
    split
    · exact done _ _
    · exact refuse _ bs
    · exact refuse _ bs
    · split
      · exact refuse _ bs
      · exact (ih _).map _

/-- The whole reading (30_encoding R300, R350). -/
theorem fetchInstr (m : Mode) (bs : List Byte) : (Sys2Proof.fetchInstr m bs).NoFault :=
  (scanPrefixes none bs).bind fun ps bs => (fetchBody _ _ _ bs).map (Prod.mk ps)

end Parse.NoFault

/-- Settles O9: no parser of the decoder ends in a decode fault, and a run with a status other than `Running` takes no
step. -/
theorem noDecodeFault : Obligations.NoDecodeFault := by
  refine ⟨fun m bytes r h => ?_, fun s r => ⟨rfl, rfl⟩⟩
  rw [decode, decodeWindow_eq] at h
  cases hf : fetchInstr m (bytes.take maxLength) with
  | done x rest =>
    rw [hf] at h
    cases h
  | stop x rest =>
    rw [hf] at h
    cases x with
    | refuse => cases h
    | fatal r' => exact Parse.NoFault.fetchInstr m _ r' rest hf

/-! ### Rows that raise `#UD` -/

section
open Machine
variable (u : UndefinedRow) (h : Head) (x : ModRmBits)

/-- The parts of a row that raises `#UD`: the bits of its ModRM byte, and the policy where it is an aliased row
(30_encoding R371, R372). -/
theorem Machine.UndefinedRow.fields_instr :
    ∃ p, (u.instr h x).fields = { Fields.undef h x with policy := p } ∧
      (p = none ∨ p = some .undefinedOpcode) := by
  cases u with
  | undefinedFE2 | undefinedFE3 | undefinedFE4 | undefinedFE5 | undefinedFE6 | undefinedFE7 | undefinedFF7 =>
    exact ⟨none, rfl, .inl rfl⟩
  | _ => exact ⟨some .undefinedOpcode, rfl, .inr rfl⟩

/-- A row that raises `#UD` is a one-byte row (30_encoding R371, R372). -/
theorem Machine.UndefinedRow.opcode_length : (u.instr h x).opcode.bytes.length = 1 := by cases u <;> rfl

/-- A row that raises `#UD` is its prefixes, an opcode byte and a ModRM byte (60_exceptions R1102). -/
theorem Machine.UndefinedRow.encode_length : (encode (u.instr h x)).length = h.prefixes.length + 2 := by
  obtain ⟨p, hf, -⟩ := u.fields_instr h x
  simp [encode, Instr.head, hf, Fields.undef, encodeRm, encodeImm, u.opcode_length]

end

section
open Machine
variable {m : Mode} {bytes : List Byte} {i : Instr}

/-- An aliased row whose fields carry `undefinedOpcode` is in its `#UD` form (30_encoding R371). -/
theorem exists_undefinedRow_of_aliasRow {α : Type} {h : Head} {a : Aliased α} {e : α → EOperand}
    {k : α → ImmField} {mk : Head → Aliased α → Instr} (u : UndefinedRow)
    (hu : ∀ x, mk h (.undefinedOpcode x) = u.instr h x)
    (hp : (Fields.aliasRow h a e k).policy = some .undefinedOpcode) :
    ∃ (u : UndefinedRow) (x : ModRmBits), mk h a = u.instr (Fields.aliasRow h a e k).head x := by
  cases a with
  | twin y => cases hp
  | undefinedOpcode x => exact ⟨u, x, hu x⟩

/-- An instruction whose fields carry `undefinedOpcode` is an aliased row in its `#UD` form (30_encoding R371). -/
theorem exists_undefinedRow (hp : i.fields.policy = some .undefinedOpcode) :
    ∃ (u : UndefinedRow) (x : ModRmBits), i = u.instr i.head x := by
  cases i with
  | addEbIb82 => exact exists_undefinedRow_of_aliasRow .addEbIb82 (fun _ => rfl) hp
  | orEbIb82 => exact exists_undefinedRow_of_aliasRow .orEbIb82 (fun _ => rfl) hp
  | adcEbIb82 => exact exists_undefinedRow_of_aliasRow .adcEbIb82 (fun _ => rfl) hp
  | sbbEbIb82 => exact exists_undefinedRow_of_aliasRow .sbbEbIb82 (fun _ => rfl) hp
  | andEbIb82 => exact exists_undefinedRow_of_aliasRow .andEbIb82 (fun _ => rfl) hp
  | subEbIb82 => exact exists_undefinedRow_of_aliasRow .subEbIb82 (fun _ => rfl) hp
  | xorEbIb82 => exact exists_undefinedRow_of_aliasRow .xorEbIb82 (fun _ => rfl) hp
  | cmpEbIb82 => exact exists_undefinedRow_of_aliasRow .cmpEbIb82 (fun _ => rfl) hp
  | testEbIbSlash1 => exact exists_undefinedRow_of_aliasRow .testEbIbSlash1 (fun _ => rfl) hp
  | testEvIzSlash1 => exact exists_undefinedRow_of_aliasRow .testEvIzSlash1 (fun _ => rfl) hp
  | shlEbIbSlash6 => exact exists_undefinedRow_of_aliasRow .shlEbIbSlash6 (fun _ => rfl) hp
  | shlEvIbSlash6 => exact exists_undefinedRow_of_aliasRow .shlEvIbSlash6 (fun _ => rfl) hp
  | shlEb1Slash6 => exact exists_undefinedRow_of_aliasRow .shlEb1Slash6 (fun _ => rfl) hp
  | shlEv1Slash6 => exact exists_undefinedRow_of_aliasRow .shlEv1Slash6 (fun _ => rfl) hp
  | shlEbCLSlash6 => exact exists_undefinedRow_of_aliasRow .shlEbCLSlash6 (fun _ => rfl) hp
  | shlEvCLSlash6 => exact exists_undefinedRow_of_aliasRow .shlEvCLSlash6 (fun _ => rfl) hp
  | _ => cases hp

theorem Fields.policyOk_iff {f : Fields} :
    f.policyOk m = true ↔ f.policy = none ∨ f.policy = some m.aliasPolicy := by
  unfold Fields.policyOk
  cases f.policy <;> simp

/-- A decoded aliased row carries the policy it was read under (30_encoding R371). -/
theorem policy_of_decode (hd : (decode m bytes).outcome = .instr i) :
    i.fields.policy = none ∨ i.fields.policy = some m.aliasPolicy := by
  obtain ⟨hw, -⟩ := decode_instr hd
  obtain ⟨hs, -⟩ := Instr.wellFormed_iff.mp hw
  obtain ⟨-, -, hr⟩ := (Instr.shapeOk_iff []).mp hs
  exact Fields.policyOk_iff.mp hr.policy

end

/-- Settles O8: what was read is the encoding, which is two bytes after the prefixes, and the form of an aliased row is
the one its policy gives it. -/
theorem undefinedRowsReadNoOperand : Obligations.UndefinedRowsReadNoOperand := by
  intro m bytes
  refine ⟨fun u h x hd => ⟨?_, ?_⟩, fun i hd halias hm => ?_⟩
  · obtain ⟨-, -, hlen⟩ := decode_instr hd
    rw [hlen]
    exact u.encode_length h x
  · obtain ⟨p, hf, hp⟩ := u.fields_instr h x
    have hm := policy_of_decode hd
    rw [hf] at hm ⊢
    obtain rfl | rfl := hp
    · exact .inl rfl
    · exact .inr (by simpa [eq_comm] using hm)
  · have hp : i.fields.policy = some m.aliasPolicy := (policy_of_decode hd).resolve_left halias
    rw [hm] at hp
    exact exists_undefinedRow hp

end Sys2Proof
end

section
/-!
SUPPORT. The exceptions (60_exceptions): what `deliver` does, what the undefined rows and the aliased rows do, and that a
step which ends in a fault, a refusal or a decode fault has read and changed nothing else.
-/
namespace Sys2Proof.Machine

/-! ### What `deliver` does -/

theorem State.mem_getOrCreate (x : Shape) (s : State) : x ∈ (s.getOrCreate x).accessorCache := by
  unfold State.getOrCreate
  split
  case isTrue hx => simpa using hx
  case isFalse => simp

/-- Every shape of a list of requests is cached after them (30_encoding R336). -/
theorem State.mem_requestAll {x : Shape} {xs : List Shape} (hx : x ∈ xs) (s : State) :
    x ∈ (s.requestAll xs).accessorCache := by
  induction xs generalizing s with
  | nil => cases hx
  | cons y ys ih =>
    cases hx with
    | head => exact (CacheGrows.requestAll (s.getOrCreate x) ys).kept.subset (s.mem_getOrCreate x)
    | tail _ hx => exact ih hx (s.getOrCreate y)

/-- Settles O58: `deliver` by its policy and the answer of the surrounding machine, and the new state by its fields. -/
theorem eventDelivery : Obligations.EventDelivery := by
  intro e s
  refine ⟨?_, fun x => ⟨by simp, by simp, by simp, by simp, fun hm => by simp [hm], fun hf => by simp [hf],
    fun hm => by simp [hm], fun hf => by simp [hf], ?_, fun y hy => ?_, by simp, by simp, by simp, by simp⟩⟩
  · unfold State.deliver
    cases s.params.deliver with
    | stop => cases e <;> rfl
    | host =>
      cases Config.hostDeliver s e with
      | none => cases e <;> rfl
      | some x => rfl
  · rw [State.resume_accessorCache]
    exact (CacheGrows.requestAll s x.shapes).kept
  · rw [State.resume_accessorCache]
    exact s.mem_requestAll hy

/-! ### Undefined rows and aliased rows -/

/-- A row that raises `#UD` hands `Fault(6)` over and does nothing else (60_exceptions R1102). -/
theorem UndefinedRow.exec_instr (u : UndefinedRow) (h : Head) (x : ModRmBits) (s : State) :
    exec (u.instr h x) s = .next (s.deliver (.fault 6#8)) := by
  cases u <;> rfl

/-- A row `82` in its twin form runs its twin, the row `80` (30_encoding R371). -/
theorem BinaryForm.exec_ebIb82 (h : Head) (e : EOperand) (v : BitVec 8) (op : BinOp) (s : State) :
    exec ((BinaryForm.ebIb82 h e v).instr op) s = exec ((BinaryForm.ebIb h e v).instr op) s := by
  cases op <;> rfl

/-- Settles O60: an undefined row raises `#UD`, and an aliased row in its twin form runs the operation of its twin. -/
theorem undefinedOpcodeRows : Obligations.UndefinedOpcodeRows :=
  ⟨UndefinedRow.exec_instr, fun h e v _ s =>
    ⟨fun op => BinaryForm.exec_ebIb82 h e v op s, rfl, rfl, fun f =>
      (f.exec_shlRow6 s).trans (f.exec_instr .shl s).symm⟩⟩

/-! ### Steps that leave the state -/

/-- From `s` to `t` nothing changes but what memory reads leave in the model's own fields, and every interface call made
is such a read (60_exceptions R1105). -/
structure OnlyReads (s t : State) : Prop where
  untouched : Untouched s t
  calls : ∃ calls : List BusCall, t.busLog = calls ++ s.busLog ∧ ∀ c ∈ calls, c.isMemRead = true

theorem Untouched.trans {s t u : State} (h : Untouched s t) (k : Untouched t u) : Untouched s u :=
  ⟨k.gpr.trans h.gpr, k.eip.trans h.eip, k.flags.trans h.flags, k.mem.trans h.mem, h.kept.trans k.kept⟩

namespace OnlyReads

theorem of_untouched {s t : State} (h : Untouched s t) (hcalls : t.busLog = s.busLog) : OnlyReads s t :=
  ⟨h, [], hcalls, nofun⟩

theorem trans {s t u : State} (h : OnlyReads s t) (k : OnlyReads t u) : OnlyReads s u := by
  obtain ⟨hu, xs, hlog, hxs⟩ := h
  obtain ⟨ku, ys, klog, hys⟩ := k
  refine ⟨hu.trans ku, ys ++ xs, by rw [klog, hlog, List.append_assoc], fun c hc => ?_⟩
  exact (List.mem_append.mp hc).elim (hys c) (hxs c)

theorem refl (s : State) : OnlyReads s s := of_untouched ⟨rfl, rfl, rfl, rfl, LaunchKept.refl s⟩ rfl

/-- The end of a run, be it by a refusal, a decode fault or an event (70_reset R1204, R1205). -/
theorem setStatus (s : State) (r : RunStatus) : OnlyReads s (s.setStatus r) :=
  of_untouched ⟨rfl, rfl, rfl, rfl, rfl, rfl, rfl, rfl⟩ rfl

theorem stopRun (s : State) (e : Event) : OnlyReads s (s.stopRun e) := by cases e <;> exact setStatus s _

/-- The fetches of an instruction (30_encoding R302). -/
theorem afterFetch (s : State) (n : Nat) : OnlyReads s (s.afterFetch n) := by
  have hsame : Same s (s.afterFetch n) := .afterFetch s n
  refine ⟨⟨hsame.gpr, hsame.eip, hsame.flags, hsame.mem, hsame.moves.kept⟩, _, s.afterFetch_busLog n, ?_⟩
  intro c hc
  obtain ⟨k, -, rfl⟩ := List.mem_map.mp (List.mem_reverse.mp hc)
  rfl

/-- The load of the operands of a division (43_muldiv R722). -/
theorem loadImplicit (s : State) (w : Width) (h : Head) (e : EOperand) (ds rs : List (Width × Reg)) :
    OnlyReads s (s.loadImplicit w h e ds rs).2 := by
  refine ⟨s.loadImplicit_untouched w h e ds rs, _, s.loadImplicit_busLog w h e ds rs, fun c hc => ?_⟩
  cases hl : s.eLoc h e with
  | reg r =>
    rw [hl] at hc
    cases hc
  | mem lin =>
    rw [hl] at hc
    cases List.mem_singleton.mp hc
    rfl

end OnlyReads

/-- A jump keeps the run status (45_flag_consumers R921). -/
theorem State.jumpIf_status (c : Cond) (h : Head) (rel : Dword) (s : State) :
    (s.jumpIf c h rel).status = s.status := by
  obtain ⟨-, -, -, hstatus, -⟩ := State.jumpIf_spec c h rel s
  exact hstatus

/-- An instruction that raises no event completes or is refused with the state as it was (46_io_interrupt R1001). -/
theorem Ran.status_or_refused {s t : State} (h : Ran s t) : t.status = s.status ∨ ∃ r, t = s.refuse r := by
  cases h with
  | binary op w h d x hdx => exact .inl (State.binary_spec op w h d x s hdx).1.status
  | test w h x y hy => exact .inl (State.test_spec w h x y s hy).1.status
  | unary op w h d => exact .inl (State.unary_spec op w h d s).1.done.status
  | mul w h e => exact .inl (by simp [State.mul])
  | imul w h e => exact .inl (by simp [State.imul])
  | imul2 w h r e => exact .inl (State.imul2_spec w h r e s).1.status
  | imul3 w h r e x hx => exact .inl (State.imul3_spec w h r e x s hx).1.status
  | divided w h e r q => exact .inl (State.pair_spec w h e _ _ r q _ s).1.status
  | shift op w h e n hn =>
    by_cases hc : maskedCount (s.operandValue .byte h n) = 0#5
    · exact .inl (State.shift_zero op w h e n s hn hc).1.status
    · exact .inl (State.shift_spec op w h e n s hn hc).1.done.status
  | clc | stc | cmc | intoNot => exact .inl rfl
  | lahf h => exact .inl (by simp [State.lahf])
  | sahf h => exact .inl (by simp [State.sahf])
  | jumpShort c h v => exact .inl ((State.jumpIf_status c h _ _).trans (s.loadValue_status .dword h _))
  | jumpNear c h v => exact .inl ((State.jumpIf_status c h _ _).trans (s.loadValue_status h.opSize.width h _))
  | setcc c h e => exact .inl (State.setcc_spec c h e s).1.status
  | portIn w h p hp =>
    by_cases hw : w = .dword
    · rw [State.portIn, if_pos hw]
      exact .inr ⟨_, rfl⟩
    · obtain ⟨v, hdone, -⟩ := State.portIn_spec w h p s hw hp
      exact .inl hdone.status
  | portOut w h p hp =>
    by_cases hw : w = .dword
    · rw [State.portOut, if_pos hw]
      exact .inr ⟨_, rfl⟩
    · exact .inl (State.portOut_spec w h p s hw hp).1.status

/-- The status is as before where an event is handed over. -/
theorem Raised.status {s u : State} {e : Event} (h : Raised s u e) : u.status = s.status := by
  cases h with
  | divide w h e => exact s.loadImplicit_status w h e _ _
  | undefinedOpcode | int3 | into => rfl
  | intN h v => exact s.loadValue_status .byte h _

/-- A fault is handed over with the state as at the start of its instruction (60_exceptions R1101, R1102, R1105). -/
theorem Raised.onlyReads {s u : State} {v : BitVec 8} (h : Raised s u (.fault v)) : OnlyReads s u := by
  cases h with
  | divide w h e => exact .loadImplicit s w h e _ _
  | undefinedOpcode => exact .refl s

/-- Where `deliver` ends a run as one of R1105, the event is a fault, and the answer was `Stop` (60_exceptions
R1120). -/
theorem State.deliver_of_leavesState {s : State} {e : Event} (hs : s.status = .running)
    (h : (s.deliver e).status.leavesState = true) : (∃ v, e = .fault v) ∧ s.deliver e = s.stopRun e := by
  obtain hd | ⟨x, -, -, hd⟩ := s.deliver_cases e
  · refine ⟨?_, hd⟩
    rw [hd] at h
    cases e with
    | fault v => exact ⟨v, rfl⟩
    | softInt v => cases h
    | external v => cases h
  · rw [hd, State.resume_status, hs] at h
    cases h

/-- A step that ends in a status of R1105 has taken the offer of the boundary and read memory, and done nothing else. -/
theorem step_onlyReads {s t : State} (h : step s = .next t) (hend : t.status.leavesState = true) :
    OnlyReads s.takeOffer t := by
  have hfetch (n : Nat) : OnlyReads s.takeOffer (s.takeOffer.afterFetch n) := .afterFetch _ n
  have hrun (n : Nat) (hs : s.status = .running) : (s.takeOffer.afterFetch n).status = .running := by
    rw [State.afterFetch_status]
    exact hs
  obtain ⟨hs, ⟨-, rfl⟩ | ⟨-, hcase⟩⟩ := step_next h
  · cases hend
  · obtain ⟨v, -, rfl⟩ | ⟨n, hr⟩ | ⟨n, u, e, hr, rfl⟩ | ⟨n, r, rfl⟩ | ⟨n, r, rfl⟩ := hcase
    · obtain ⟨⟨w, hw⟩, -⟩ := State.deliver_of_leavesState (s := s.takeOffer) hs hend
      cases hw
    · obtain hst | ⟨r, rfl⟩ := hr.status_or_refused
      · rw [hst, hrun n hs] at hend
        cases hend
      · exact (hfetch n).trans (.setStatus _ (.refused r))
    · obtain ⟨⟨v, rfl⟩, hd⟩ := State.deliver_of_leavesState (hr.status.trans (hrun n hs)) hend
      rw [hd]
      exact ((hfetch n).trans hr.onlyReads).trans (.stopRun u _)
    · exact (hfetch n).trans (.setStatus _ (.refused r))
    · exact (hfetch n).trans (.setStatus _ (.fatal r))

/-- Settles O29: a fault is raised, and a refusal made, before anything but reads has been done, and the end of the run
changes the status alone. -/
theorem faultsLeaveTheState : Obligations.FaultsLeaveTheState := by
  intro s t h hend
  obtain ⟨huntouched, hcalls⟩ := step_onlyReads h hend
  exact ⟨huntouched, hcalls⟩

end Sys2Proof.Machine
end

section
/-!
SUPPORT. What a step does at a boundary, one equation for each of its cases (70_reset R1204, R1206; 60_exceptions
R1130), and the state at reset (70_reset R1200, R1201).
-/
namespace Sys2Proof.Machine

/-! ### One step, case by case -/

section
variable {s : State}

theorem step_of_not_running (hs : s.status ≠ .running) : step s = .fault .runOver := by
  obtain ⟨-, hx⟩ | ⟨hrun, -⟩ | ⟨hrun, -⟩ | ⟨hrun, -⟩ := step_cases (rfl : step s = step s)
  · exact hx
  all_goals exact absurd hrun hs

theorem step_of_running (hs : s.status = .running) : step s = s.stepRunning := by simp only [step, hs]

theorem State.stepRunning_of_stopIP (he : s.eip = s.params.stopIP) :
    s.stepRunning = .next (s.setStatus .finished) := if_pos he

theorem State.stepRunning_of_offered (he : s.eip ≠ s.params.stopIP) {v : BitVec 8} (hv : s.offered = some v) :
    s.stepRunning = .next (s.takeOffer.deliver (.external v)) := by
  rw [State.stepRunning, if_neg he, hv]

/-- An instruction runs on the state after its fetches, with the input of the boundary taken. -/
theorem State.stepRunning_of_instr (he : s.eip ≠ s.params.stopIP) (ho : s.offered = none) {i : Instr}
    (hi : (decode s.params.mode s.window).outcome = .instr i) :
    s.stepRunning = exec i (s.takeOffer.afterFetch (decode s.params.mode s.window).len) := by
  simp only [State.stepRunning, if_neg he, ho, hi]

/-- A refusal of the decoder ends the run after the fetches of the bytes it read. -/
theorem State.stepRunning_of_refuse (he : s.eip ≠ s.params.stopIP) (ho : s.offered = none) {r : RefuseReason}
    (hr : (decode s.params.mode s.window).outcome = .refuse r) :
    s.stepRunning = .next ((s.takeOffer.afterFetch (decode s.params.mode s.window).len).refuse r) := by
  simp only [State.stepRunning, if_neg he, ho, hr]

/-- The vector offered at this boundary is the first entry of `pending`, and `takeOffer` leaves the others (log 16). -/
theorem State.offer_of_cons {v : BitVec 8} {rest : List (Option (BitVec 8))} (hp : s.pending = some v :: rest) :
    s.offered = some v ∧ s.takeOffer = { s with pending := rest } := by
  simp [State.offered, State.takeOffer, hp]

end

/-- Settles O21: each outcome of the decode has its equation, and the fetches change the draws and the call record
alone. -/
theorem stepRunsDecoded : Obligations.StepRunsDecoded := by
  intro s hs he ho
  refine ⟨fun i hi => ?_, fun r hr => ?_, s.takeOffer.afterFetch_eq _⟩
  · rw [step_of_running hs, State.stepRunning_of_instr he ho hi]
  · rw [step_of_running hs, State.stepRunning_of_refuse he ho hr]

/-- Settles O22: each of the three boundaries has its equation, and the offer taken is the head of `pending`. -/
theorem boundaryEvents : Obligations.BoundaryEvents := by
  refine fun s => ⟨step_of_not_running, fun hs he => ?_, fun hs he v rest hp => ?_⟩
  · rw [step_of_running hs, State.stepRunning_of_stopIP he]
    rfl
  · obtain ⟨hv, htaken⟩ := State.offer_of_cons hp
    rw [step_of_running hs, State.stepRunning_of_offered he hv, htaken]

/-! ### The state at reset -/

@[simp] theorem Gpr.reset_get (r : Reg) : Gpr.reset.get r = 0#32 := by cases r <;> rfl

@[simp] theorem SegFile.reset_get (x : Seg) : SegFile.reset.get x = .reset := by cases x <;> rfl

@[simp] theorem FlagEngine.reset_ovr (f : Flag) : FlagEngine.reset.ovr f = some false := by cases f <;> rfl

@[simp] theorem FlagEngine.reset_tag (g : FlagGroup) : FlagEngine.reset.tag g = none := by cases g <;> rfl

/-- No segment has a base at reset (log 2). -/
theorem State.reset_segBase (x : Seg) : State.reset.segBase x = 0#32 :=
  congrArg SegReg.base (SegFile.reset_get x)

/-- Every override is full at reset, so that no flag needs a tag (70_reset R1201; 40_flag_engine R422). -/
theorem FlagEngine.reset_valid : FlagEngine.reset.valid = true := by
  rw [FlagEngine.valid_iff]
  intro f hf
  rw [FlagEngine.reset_ovr] at hf
  cases hf

/-- `100h` is an offset of 16-bit code (log 3). -/
theorem State.reset_eipInRange : State.reset.eipInRange := by
  unfold State.eipInRange
  decide

/-- Settles O24: the slots, registers and bases each by their lemma, and the other fields as `State.reset` gives
them. -/
theorem resetState : Obligations.ResetState :=
  ⟨rfl, FlagEngine.reset_ovr, FlagEngine.reset_tag, rfl, rfl, rfl, rfl, rfl, Gpr.reset_get, State.reset_segBase, rfl,
    FlagEngine.reset_valid, State.reset_mem_wf, State.reset_eipInRange⟩

end Sys2Proof.Machine
end
